-- ==== Sys2Proof/Word.lean ====
section
/-! DEFINITION. The words of the JD4816: the 32-bit word of a message or a register, and the identities and
times that the manual treats as bits. -/

namespace Sys2Proof

/-- A 32-bit word of a link message (R29) or of the Management Port's window (R172). Bit 31 is the most significant. -/
abbrev Word := BitVec 32

/-- A contributor token: 24 bits, compared whole and matched under a mask (R2, R32). -/
abbrev Token := BitVec 24

/-- A gather tag: 16 bits, none reserved (R1). -/
abbrev Tag := BitVec 16

/-- A point on the timebase, in microseconds modulo 2^32 (R10, R11). -/
abbrev Time := BitVec 32

end Sys2Proof
end

