-- ==== Sys2Proof/Config.lean ====
section
/-! DEFINITION. What is fixed for the part: the fixed numbers of the manual, and the free values that it leaves open. -/

namespace Sys2Proof.Config

/-- Downlink ports, numbered 0 to 47 (R1). -/
def ports : Nat := 48

/-- Gather slots, numbered 0 to 8,191 (R42). -/
def slots : Nat := 8192

/-- Contributor entries of the pool, numbered 0 to 65,535 (R69). -/
def poolEntries : Nat := 65536

/-- The most members a roster holds (R69). -/
def rosterLimit : Nat := 256

/-- The most entries one OPEN or EXTEND lists (R15). -/
def listLimit : Nat := 24

/-- The depth of the Query FIFO and of the Answer FIFO (R16, R18). -/
def fifoDepth : Nat := 64

/-- The places of the Emission Queue (R135). -/
def emissionPlaces : Nat := 256

/-- The most emission credit held (R23). -/
def creditLimit : Nat := 1023

/-- The largest passed count of a contributor (R84). -/
def passedLimit : Nat := 16777215

/-- The largest trims count of a contributor (R84). -/
def trimsLimit : Nat := 255

/-- The port profiles (R149). -/
def profiles : Nat := 8

/-- The exempt windows (R31). -/
def windows : Nat := 8

/-- The meters (R164). -/
def meters : Nat := 16

/-- The IDENT register: part code 0x4816 and revision 1 (R172). -/
def ident : Word := 0x48160001#32

/-- FREE VALUE (DESIGN CHOICE, log 3). R20 and R29 state the allowance, accepted and class fields of the answer to a
fault-free OPEN or EXTEND, and R29 states 0 for every other kind; no rule states them for a faulted OPEN or EXTEND.
The n-th such answer carries `faultedGrant n`: A in the upper eight bits, then five bits accepted, three bits class. -/
opaque faultedGrant : Nat → BitVec 16

/-- FREE VALUE (DESIGN CHOICE, log 4). Whether a listed entry that finds its roster full makes a take: no rule says
whether it raises POOL_LOW as a refused take when the free list is empty as well (R51, R70, R71). -/
opaque listingTriesFullRoster : Bool

end Sys2Proof.Config
end

