-- ==== Sys2Proof/Syntax.lean ====
section
/-! DEFINITION. The commands of the JD4816: one constructor for each row of the opcode table, in the table's order.
The part is a block: a command is an event of the part, whole and indivisible (95_what_each_step_holds.md). -/

namespace Sys2Proof

/-- The commands. A query's fields are not operands of the command that takes it: they are those of the framed message
at the head of the Query FIFO (R17, R29). A table write's address is not an operand either: TABLE_SELECT names it
(R174). -/
inductive Instr where
  /-- PART_RESET: RESET_N is asserted (R26, R10). -/
  | partReset
  /-- LOSS_OF_FRAMING on LKL_RX (R26). -/
  | lossOfFraming
  /-- FRAMING_ACQUIRED on LKL_RX (R26). -/
  | framingAcquired
  /-- QUERY_ARRIVAL: a framed message with a code of the query space arrives, word 0 first (R14, R16). -/
  | queryArrival (words : List Word)
  /-- UNDEFINED_SIGNAL: a framed message of the signal space that is no signal arrives (R14). -/
  | undefinedSignal (words : List Word)
  /-- OPEN is taken from the Query FIFO head (R50). -/
  | openQuery
  /-- EXTEND is taken (R55). -/
  | extendQuery
  /-- RECLASS is taken (R56, R57). -/
  | reclassQuery
  /-- CLOSE is taken (R58). -/
  | closeQuery
  /-- ARRIVE is taken (R30). -/
  | arriveQuery
  /-- UNDEFINED_QUERY: a query of no query kind is taken (R14). -/
  | undefinedQuery
  /-- ANSWER: the answer at the Answer FIFO head is sent (R18). -/
  | answer
  /-- DRAW_EMISSION: a valid head entry of the Emission Queue departs (R138). -/
  | drawEmission
  /-- STALE_DISCARD: a stale head entry is discarded (R139). -/
  | staleDiscard
  /-- EMIT_CREDIT with its count (R23). -/
  | emitCredit (count : BitVec 8)
  /-- LINK_RESET signal (R27). -/
  | linkReset
  /-- REPORT of a port's depth (R99). -/
  | report (port : BitVec 8) (depth : BitVec 16)
  /-- DWELL_EXPIRY at a port (R105). -/
  | dwellExpiry (port : Nat)
  /-- STALE_EXPIRY at a port (R108). -/
  | staleExpiry (port : Nat)
  /-- DRAW_DEADLINE_EXPIRY of the member at a roster position of a slot (R93). -/
  | drawDeadlineExpiry (slot position : Nat)
  /-- IDLE_EXPIRY of a slot's record (R62). -/
  | idleExpiry (slot : Nat)
  /-- LIFETIME_EXPIRY of a slot's record (R63). -/
  | lifetimeExpiry (slot : Nat)
  /-- LINGER_EXPIRY of a slot's record (R47). -/
  | lingerExpiry (slot : Nat)
  /-- ENABLE_PORT: COMMAND is written with code 0x01, a port field and a tag field (R159, R173). -/
  | enablePort (port : BitVec 8) (tag : Tag)
  /-- DISABLE_PORT, code 0x02 (R160, R173). -/
  | disablePort (port : BitVec 8) (tag : Tag)
  /-- RETIRE_GATHER, code 0x03 (R65, R173). -/
  | retireGather (port : BitVec 8) (tag : Tag)
  /-- PURGE_ALL, code 0x04; its operand fields are ignored (R66, R173). -/
  | purgeAll (port : BitVec 8) (tag : Tag)
  /-- METERS_START, code 0x05 (R167, R173). -/
  | metersStart (port : BitVec 8) (tag : Tag)
  /-- METERS_STOP, code 0x06 (R167, R173). -/
  | metersStop (port : BitVec 8) (tag : Tag)
  /-- BAD_COMMAND: COMMAND is written with a code outside 0x01 to 0x06 (R173). -/
  | badCommand (code : BitVec 8) (port : BitVec 8) (tag : Tag)
  /-- PROFILE_WRITE: TABLE_WINDOW is written while TABLE_SELECT names a PROFILE word (R154). -/
  | profileWrite (value : Word)
  /-- PROFILE_NUMBER_WRITE: TABLE_SELECT names PORT word 0 (R157). -/
  | profileNumberWrite (value : Word)
  /-- ADMIN_FLOOR_WRITE: TABLE_SELECT names PORT word 1 (R115). -/
  | adminFloorWrite (value : Word)
  /-- PORT_STATUS_READ: TABLE_WINDOW is read while TABLE_SELECT names PORT word 2 (R118). -/
  | portStatusRead
  /-- EXEMPT_WRITE: TABLE_SELECT names an EXEMPT word (R34). -/
  | exemptWrite (value : Word)
  /-- METER_CONFIG_WRITE: TABLE_SELECT names METER word 0 (R166). -/
  | meterConfigWrite (value : Word)
  /-- METER_COUNT_WRITE: TABLE_SELECT names METER word 1 or 2 (R170). -/
  | meterCountWrite (value : Word)
  /-- METER_FLAG_CLEAR: TABLE_SELECT names METER word 5 (R170). -/
  | meterFlagClear (value : Word)
  /-- TABLE_WINDOW_READ: TABLE_WINDOW is read while TABLE_SELECT names any other word, or none (R174). -/
  | tableWindowRead
  /-- ATTN_SUMMARY_WRITE (R176). -/
  | attnSummaryWrite (value : Word)
  /-- ATTN_ENABLE_WRITE (R177). -/
  | attnEnableWrite (value : Word)
  /-- POOL_LOW_MARK_WRITE (R178). -/
  | poolLowMarkWrite (value : Word)
  /-- REGISTER_WRITE: a write of the window's word `index`, covering the bytes of `lanes`, that has no row of its own
  (R172, R174). -/
  | registerWrite (index : BitVec 4) (lanes : BitVec 4) (value : Word)
  /-- TIMEBASE_ADVANCE (R10). -/
  | timebaseAdvance
  deriving DecidableEq, Repr

end Sys2Proof
end

