-- ==== Sys2Proof/Machine/State.lean ====
section
/-! DEFINITION. The state of the JD4816 as plain data, the reasons a step can stop, and the state after part reset. -/

namespace Sys2Proof.Machine

/-! ## The names of the manual's states, verdicts and codes -/

/-- The link state (R26). -/
inductive LinkState where
  | up
  | resetting
  deriving DecidableEq, Repr

/-- The two kinds of message that share LKL_TX (R25). -/
inductive TxKind where
  | answer
  | emission
  deriving DecidableEq, Repr

/-- A verdict (R7). -/
inductive Verdict where
  | pass
  | mark
  | trim
  deriving DecidableEq, Repr

/-- The basis of a verdict (R21). -/
inductive Basis where
  | roster
  | exempt
  | straggler
  | stray
  deriving DecidableEq, Repr

/-- The status of an answer (R19, R20). -/
inductive Status where
  | ok
  | format
  | portRange
  | portOff
  | noGather
  | gatherClosed
  | duplicateTag
  | noRoom
  deriving DecidableEq, Repr

/-- The outcome with which a gather ends and lingers (R42, R46). -/
inductive Ending where
  | complete
  | closed
  | idle
  | overdue
  deriving DecidableEq, Repr

/-- The state of a record that is not FREE; a LINGER record holds its outcome (R42). -/
inductive Stage where
  | active
  | linger (outcome : Ending)
  deriving DecidableEq, Repr

/-- The phase of a contributor (R73). -/
inductive Phase where
  | opening
  | waiting
  | drawn
  | finished
  | lapsed
  deriving DecidableEq, Repr

/-- The mode of a port (R97). -/
inductive Mode where
  | calm
  | fill
  | crowd
  | surge
  deriving DecidableEq, Repr

/-- A dwell timer: absent, a deadline, or suspended with a remaining time in microseconds (R97, R13). -/
inductive Timer where
  | absent
  | armed (deadline : Time)
  | suspended (remaining : Nat)
  deriving DecidableEq, Repr

/-- The attention sources, in the order of their bits (R176). -/
inductive AttnSource where
  | linkOverrun
  | linkReset
  | reportStale
  | portSurge
  | openRefused
  | poolLow
  | meterOverflow
  deriving DecidableEq, Repr

/-- The sixteen meter events, in the order of their codes (R165, R175 note 4). -/
inductive MeterEvent where
  | cellsPassed
  | cellsMarked
  | cellsTrimmed
  | arrivalsStray
  | arrivalsExempt
  | drawsIssued
  | drawCells
  | drawsReclaimed
  | gathersOpened
  | gathersComplete
  | gathersClosed
  | gathersIdle
  | gathersOverdue
  | opensRefused
  | surgeEntries
  | queryFaults
  deriving DecidableEq, Repr

/-- A meter's enable source (R164, R166). -/
inductive EnableSource where
  | never
  | always
  | start
  | surgeEntry
  deriving DecidableEq, Repr

/-- A meter's disable source (R164, R166). -/
inductive DisableSource where
  | never
  | overflow
  | stop
  | surgeExit
  deriving DecidableEq, Repr

/-- A meter's reload control (R164). -/
inductive ReloadControl where
  | never
  | overflow
  | start
  deriving DecidableEq, Repr

/-- The result of a command (R173). -/
inductive Result where
  | ok
  | portRange
  | noGather
  | badCommand
  deriving DecidableEq, Repr

/-! ## The parts of the state -/

/-- Storage of many like entries by number: `(number, entry)` pairs in one canonical form, the numbers strictly rising
and no entry equal to its part reset value, which is what an unlisted number reads as (log 11). -/
abbrev Table (α : Type) := List (Nat × α)

/-- One value for each of the four modes (R150, R152, R153). -/
structure PerMode (α : Type) where
  calm : α
  fill : α
  crowd : α
  surge : α
  deriving DecidableEq, Repr

/-- A profile: every field of R150 to R153, at the width its table word gives it (R175). -/
structure Profile where
  m1 : BitVec 16
  m2 : BitVec 16
  m3 : BitVec 16
  hysteresis : BitVec 16
  dwellFill : BitVec 16
  dwellCrowd : BitVec 16
  dwellSurge : BitVec 16
  staleTime : BitVec 16
  fMin : BitVec 14
  fMax : BitVec 14
  fInit : BitVec 14
  floors : PerMode (BitVec 3)
  sUp : BitVec 12
  sDown : BitVec 12
  quantum : BitVec 8
  refill : BitVec 8
  drawLifetime : BitVec 16
  shares : PerMode (BitVec 5)
  caps : PerMode (BitVec 8)
  idleTime : BitVec 16
  lingerTime : BitVec 16
  maxLifetime : BitVec 16
  lapseLimit : BitVec 3
  defaultClass : BitVec 3
  stray : PerMode Verdict
  straggler : PerMode Verdict
  deriving DecidableEq, Repr

/-- An exempt window (R31). The scope is ANY when `scopeAny` holds, whatever `scopePort` holds (R175 note 6). -/
structure Window where
  enabled : Bool
  scopeAny : Bool
  scopePort : BitVec 8
  base : Token
  mask : Token
  deriving DecidableEq, Repr

/-- A held contributor entry, standing on a roster (R72). -/
structure Member where
  /-- The pool entry number (R69). -/
  entry : Nat
  token : Token
  announced : Bool
  /-- E, the cells the collector expects, or absent. -/
  expected : Option Nat
  phase : Phase
  openLeft : Nat
  drawQueued : Nat
  drawOut : Nat
  passed : Nat
  trims : Nat
  lapses : Nat
  drawDeadline : Option Time
  deriving DecidableEq, Repr

/-- The fields of a record that is not FREE (R42). -/
structure Gather where
  port : Nat
  tag : Tag
  cls : Nat
  suspended : Bool
  /-- The opening allowance A. -/
  allowance : Nat
  /-- The announced count n. -/
  announced : Nat
  /-- The roster, in join order (R74). -/
  roster : List Member
  /-- The wait ring: the pool entry numbers of the WAITING members, oldest first (R73). -/
  ring : List Nat
  stage : Stage
  idle : Option Time
  lifetime : Option Time
  lingerAt : Option Time
  deriving DecidableEq, Repr

/-- A slot of the Gather Table: FREE when it holds no record (R42, R44). -/
structure Slot where
  generation : BitVec 8
  body : Option Gather
  deriving DecidableEq, Repr

/-- A run of consecutive pool entry numbers on the free list, in ascending order (log 12). -/
structure Run where
  first : Nat
  count : Nat
  deriving DecidableEq, Repr

/-- One port: its settings (R156), its pressure state (R97) and its draw state (R120). -/
structure Port where
  enabled : Bool
  profile : BitVec 3
  adminFloor : BitVec 3
  mode : Mode
  dwell : Timer
  staleAt : Option Time
  stale : Bool
  /-- The flight limit F. -/
  flight : Nat
  atFloor : Bool
  atCeiling : Bool
  /-- The effective floor. -/
  effFloor : Nat
  /-- The outstanding draw total O. -/
  outstanding : Nat
  /-- The class queues, by class: the slots of the queued gathers, head first (R123). -/
  queues : Table (List Nat)
  blocked : Bool
  deriving DecidableEq, Repr

/-- A draw entry of the Emission Queue (R136). -/
structure Emission where
  port : Nat
  tag : Tag
  token : Token
  cells : Nat
  slot : Nat
  generation : BitVec 8
  entry : Nat
  deriving DecidableEq, Repr

/-- An answer (R20, R21, R29). The verdict and the basis are present in the answer to a fault-free ARRIVE alone. -/
structure Answer where
  kind : BitVec 4
  status : Status
  ruling : Option (Verdict × Basis)
  parameter : BitVec 16
  allowance : BitVec 8
  accepted : BitVec 5
  cls : BitVec 3
  deriving DecidableEq, Repr

/-- A meter (R164). A port field of 63 is ALL (R175). -/
structure Meter where
  port : BitVec 6
  event : MeterEvent
  enableSource : EnableSource
  disableSource : DisableSource
  reloadControl : ReloadControl
  reload : BitVec 40
  overflowAttention : Bool
  count : BitVec 40
  overflowed : Bool
  counting : Bool
  deriving DecidableEq, Repr

/-- COMMAND_RESULT (R173). -/
structure CommandResult where
  sequence : BitVec 8
  code : BitVec 8
  result : Result
  deriving DecidableEq, Repr

/-- TABLE_SELECT (R174). -/
structure TableSelect where
  table : BitVec 3
  entry : BitVec 21
  word : BitVec 8
  deriving DecidableEq, Repr

/-- The state of the JD4816. The Gather Index, the pending-class sets, the Emission Arbiter's waiting set and the pin
ATTN_N are views computed from it (log 10). -/
structure State where
  /-- The timebase (R10). -/
  timebase : Time
  /-- The link state (R26). -/
  link : LinkState
  /-- The Query FIFO: framed messages, head first (R16). -/
  queryFifo : List (List Word)
  /-- The Answer FIFO, head first (R18). -/
  answerFifo : List Answer
  /-- The emission credit (R23). -/
  credit : Nat
  /-- The transmitter's next choice (R25). -/
  nextTx : TxKind
  /-- The message last sent on LKL_TX, word 0 first; no words where none was sent (log 1). -/
  lklTx : List Word
  /-- The exempt windows 0 to 7 (R31). -/
  windows : Table Window
  /-- The slots 0 to 8,191 (R42). -/
  slots : Table Slot
  /-- The pool free list, head first (R69). -/
  free : List Run
  /-- The ports 0 to 47 (R97, R120, R156). -/
  ports : Table Port
  /-- The Emission Queue, oldest at the head (R135). -/
  emq : List Emission
  /-- The Emission Arbiter's pointer (R141). -/
  pointer : Nat
  /-- The profiles 0 to 7 (R149). -/
  profiles : Table Profile
  /-- The meters 0 to 15 (R164). -/
  meters : Table Meter
  /-- COMMAND: the last value written (R173). -/
  command : Word
  /-- COMMAND_RESULT (R173). -/
  result : CommandResult
  /-- TABLE_SELECT (R174). -/
  select : TableSelect
  /-- ATTN_SUMMARY (R176). -/
  attn : BitVec 7
  /-- ATTN_ENABLE (R177). -/
  attnEnable : BitVec 7
  /-- POOL_LOW_MARK (R178). -/
  poolLowMark : Nat
  /-- The value returned by the last TABLE_WINDOW read (R174, log 1). -/
  readData : Word
  /-- The MODEL's own: how many free values have been used (log 3). -/
  freeIndex : Nat
  /-- The MODEL's own: the commands that are waiting, first in, first out. -/
  pending : List Instr
  deriving DecidableEq, Repr

/-- The state right after part reset: the timebase at 0 (R10), the link RESETTING (R26), both FIFOs empty (R16, R18), no
credit (R23), the transmitter's next choice an answer (R25), every window, slot, port, profile and meter at its part
reset value (R31, R43, R97, R120, R156, R149, R164: an empty table), the free list at the entry numbers in ascending order
(R69), the Emission Queue empty (R135), the pointer at 47 (R141), and the registers of the Management Port at the values
of R172 to R178. -/
def State.reset : State where
  timebase := 0#32
  link := .resetting
  queryFifo := []
  answerFifo := []
  credit := 0
  nextTx := .answer
  lklTx := []
  windows := []
  slots := []
  free := [⟨0, 65536⟩]
  ports := []
  emq := []
  pointer := 47
  profiles := []
  meters := []
  command := 0#32
  result := ⟨0#8, 0#8, .ok⟩
  select := ⟨0#3, 0#21, 0#8⟩
  attn := 0#7
  attnEnable := 0#7
  poolLowMark := 1024
  readData := 0#32
  freeIndex := 0
  pending := []

/-! ## The reasons a step can stop -/

/-- The faults of a step: none. The manual gives every command of the table an effect in every state, and answers what
it refuses with a fault status or a result code, which are next states (INVENTORY.md, Faults). Safe. -/
inductive Fault
  deriving DecidableEq, Repr

/-- The refusals of a step. -/
inductive Refusal where
  /-- Raised by `exec` for a command whose meaning is not modelled. No arm raises it: every command has its meaning.
  Safe: the model stops where the part goes on. -/
  | notModelled (mnemonic : String)
  deriving DecidableEq, Repr

end Sys2Proof.Machine
end

