-- ==== Sys2Proof/Machine/Operands.lean ====
section
/-! DEFINITION. The operand forms: bit fields, the codes of the manual's tables, the layouts of the link's messages (R15,
R29) and of the table words (R175), and TABLE_SELECT (R174). -/

namespace Sys2Proof.Machine

/-! ## Bit fields -/

/-- The field of `width` bits of a word whose lowest bit is `lo`. -/
def field (w : Word) (lo width : Nat) : BitVec width := w.extractLsb' lo width

/-- One bit of a word. -/
def bit (w : Word) (i : Nat) : Bool := w.getLsbD i

/-- A word that holds `v` with its lowest bit at `lo`, and zeros elsewhere. -/
def place (lo : Nat) {width : Nat} (v : BitVec width) : Word := v.setWidth 32 <<< lo

/-- A word that holds the low `width` bits of a number with its lowest bit at `lo`. -/
def placeNat (lo width n : Nat) : Word := place lo (BitVec.ofNat width n)

/-- A word that holds one bit at `i`. -/
def placeBit (i : Nat) (b : Bool) : Word := place i (BitVec.ofBool b)

/-- A field that holds one replaced value: a written 0 is stored as 1 (R150, R151, R152). -/
def atLeastOne {width : Nat} (v : BitVec width) : BitVec width := if v = 0#width then 1#width else v

/-! ## Codes -/

/-- Verdict codes (R29). -/
def Verdict.code : Verdict → BitVec 2
  | .pass => 0#2
  | .mark => 1#2
  | .trim => 2#2

/-- The verdict that a written code stores: 3 is stored as TRIM (R153). -/
def Verdict.ofCode (c : BitVec 2) : Verdict :=
  if c = 0#2 then .pass else if c = 1#2 then .mark else .trim

/-- Basis codes (R29). -/
def Basis.code : Basis → BitVec 2
  | .roster => 0#2
  | .exempt => 1#2
  | .straggler => 2#2
  | .stray => 3#2

/-- Status codes (R29). -/
def Status.code : Status → BitVec 4
  | .ok => 0#4
  | .format => 1#4
  | .portRange => 2#4
  | .portOff => 3#4
  | .noGather => 4#4
  | .gatherClosed => 5#4
  | .duplicateTag => 6#4
  | .noRoom => 7#4

/-- Outcome codes (R29, R42). -/
def Ending.code : Ending → BitVec 16
  | .complete => 1#16
  | .closed => 2#16
  | .idle => 3#16
  | .overdue => 4#16

/-- Mode codes (R97). -/
def Mode.code : Mode → BitVec 2
  | .calm => 0#2
  | .fill => 1#2
  | .crowd => 2#2
  | .surge => 3#2

/-- Phase codes of the ROSTER table (R175). -/
def Phase.code : Phase → BitVec 3
  | .opening => 1#3
  | .waiting => 2#3
  | .drawn => 3#3
  | .finished => 4#3
  | .lapsed => 5#3

/-- Command result codes (R173). -/
def Result.code : Result → BitVec 4
  | .ok => 0#4
  | .portRange => 2#4
  | .noGather => 4#4
  | .badCommand => 8#4

/-- The bit of an attention source (R176). -/
def AttnSource.bit : AttnSource → BitVec 7
  | .linkOverrun => 0x01#7
  | .linkReset => 0x02#7
  | .reportStale => 0x04#7
  | .portSurge => 0x08#7
  | .openRefused => 0x10#7
  | .poolLow => 0x20#7
  | .meterOverflow => 0x40#7

/-- Meter event codes (R175 note 4). -/
def MeterEvent.code : MeterEvent → BitVec 4
  | .cellsPassed => 0#4
  | .cellsMarked => 1#4
  | .cellsTrimmed => 2#4
  | .arrivalsStray => 3#4
  | .arrivalsExempt => 4#4
  | .drawsIssued => 5#4
  | .drawCells => 6#4
  | .drawsReclaimed => 7#4
  | .gathersOpened => 8#4
  | .gathersComplete => 9#4
  | .gathersClosed => 10#4
  | .gathersIdle => 11#4
  | .gathersOverdue => 12#4
  | .opensRefused => 13#4
  | .surgeEntries => 14#4
  | .queryFaults => 15#4

/-- The meter event of a written code (R175 note 4). -/
def MeterEvent.ofCode (c : BitVec 4) : MeterEvent :=
  match c.toNat with
  | 0 => .cellsPassed
  | 1 => .cellsMarked
  | 2 => .cellsTrimmed
  | 3 => .arrivalsStray
  | 4 => .arrivalsExempt
  | 5 => .drawsIssued
  | 6 => .drawCells
  | 7 => .drawsReclaimed
  | 8 => .gathersOpened
  | 9 => .gathersComplete
  | 10 => .gathersClosed
  | 11 => .gathersIdle
  | 12 => .gathersOverdue
  | 13 => .opensRefused
  | 14 => .surgeEntries
  | _ => .queryFaults

/-- Enable source codes (R164, R175 note 5). -/
def EnableSource.code : EnableSource → BitVec 2
  | .never => 0#2
  | .always => 1#2
  | .start => 2#2
  | .surgeEntry => 3#2

/-- The enable source of a written code. -/
def EnableSource.ofCode (c : BitVec 2) : EnableSource :=
  if c = 0#2 then .never else if c = 1#2 then .always else if c = 2#2 then .start else .surgeEntry

/-- Disable source codes (R164, R175 note 5). -/
def DisableSource.code : DisableSource → BitVec 2
  | .never => 0#2
  | .overflow => 1#2
  | .stop => 2#2
  | .surgeExit => 3#2

/-- The disable source of a written code. -/
def DisableSource.ofCode (c : BitVec 2) : DisableSource :=
  if c = 0#2 then .never else if c = 1#2 then .overflow else if c = 2#2 then .stop else .surgeExit

/-- Reload control codes (R164, R175 note 5). -/
def ReloadControl.code : ReloadControl → BitVec 2
  | .never => 0#2
  | .overflow => 1#2
  | .start => 2#2

/-- The reload control of a written code: 3 is stored as NEVER (R175 note 5). -/
def ReloadControl.ofCode (c : BitVec 2) : ReloadControl :=
  if c = 1#2 then .overflow else if c = 2#2 then .start else .never

/-! ## Messages from the switch (R14, R15, R29) -/

/-- Word `i` of a framed message; a word that was not delivered reads as 0. -/
def wordAt (m : List Word) (i : Nat) : Word := m.getD i 0#32

/-- The kind code: word 0 bits 31:28. -/
def kindOf (m : List Word) : BitVec 4 := field (wordAt m 0) 28 4

/-- The code lies in the query space 0x0 to 0x7 (R14). -/
def isQuery (m : List Word) : Bool := !m.isEmpty && decide ((kindOf m).toNat < 8)

/-- The port field: word 0 bits 7:0. -/
def portOf (m : List Word) : Nat := (field (wordAt m 0) 0 8).toNat

/-- The class field of OPEN, EXTEND and RECLASS: word 0 bits 27:25. -/
def classOf (m : List Word) : Nat := (field (wordAt m 0) 25 3).toNat

/-- The entry count k of OPEN and EXTEND: word 0 bits 24:20. -/
def entryCountOf (m : List Word) : Nat := (field (wordAt m 0) 20 5).toNat

/-- The gather tag: word 1 bits 31:16. -/
def tagOf (m : List Word) : Tag := field (wordAt m 1) 16 16

/-- The announced count of OPEN and EXTEND: word 1 bits 15:4. -/
def announcedOf (m : List Word) : Nat := (field (wordAt m 1) 4 12).toNat

/-- The listed entries of OPEN and EXTEND in list order: token and expected cells, 0 for absent. -/
def listedOf (m : List Word) : List (Token × Nat) :=
  (List.range (entryCountOf m)).map fun j =>
    (field (wordAt m (2 + 2 * j)) 0 24, (field (wordAt m (3 + 2 * j)) 0 16).toNat)

/-- The byte count of ARRIVE: word 0 bits 27:14. -/
def bytesOf (m : List Word) : Nat := (field (wordAt m 0) 14 14).toNat

/-- The last flag of ARRIVE: word 0 bit 13. -/
def lastOf (m : List Word) : Bool := bit (wordAt m 0) 13

/-- The contributor token of ARRIVE: word 2 bits 23:0. -/
def tokenOf (m : List Word) : Token := field (wordAt m 2) 0 24

/-- The depth of REPORT: bits 27:12. -/
def depthOf (m : List Word) : BitVec 16 := field (wordAt m 0) 12 16

/-- The count of EMIT_CREDIT: bits 27:20. -/
def creditsOf (m : List Word) : BitVec 8 := field (wordAt m 0) 20 8

/-- The length in words is the one that R15 requires of the message's kind. Codes of no kind have none. -/
def lengthLegal (m : List Word) : Bool :=
  match (kindOf m).toNat with
  | 1 | 2 => decide (entryCountOf m ≤ Config.listLimit) && m.length == 2 + 2 * entryCountOf m
  | 3 | 4 => m.length == 2
  | 5 => m.length == 3
  | 8 | 9 | 10 => m.length == 1
  | _ => false

/-- The cells of a packet: its bytes divided by 256, any remainder rounded up (R9). -/
def cellsOf (bytes : Nat) : Nat := (bytes + 255) / 256

/-! ## Messages to the switch (R29) -/

/-- The two words of an ANSWER. -/
def Answer.words (a : Answer) : List Word :=
  [ place 28 0xC#4 ||| place 24 a.kind ||| place 20 a.status.code
      ||| (match a.ruling with
          | none => 0#32
          | some (v, b) => place 18 v.code ||| place 16 b.code)
      ||| place 0 a.parameter,
    place 24 a.allowance ||| place 19 a.accepted ||| place 16 a.cls ]

/-- The three words of a DRAW emission. -/
def Emission.words (e : Emission) : List Word :=
  [ place 28 0xD#4 ||| placeNat 20 8 e.cells ||| placeNat 0 8 e.port,
    place 16 e.tag,
    place 0 e.token ]

/-! ## Profile words (R150 to R153, R175) -/

/-- The value of a mode. -/
def PerMode.get {α : Type} (p : PerMode α) : Mode → α
  | .calm => p.calm
  | .fill => p.fill
  | .crowd => p.crowd
  | .surge => p.surge

/-- A share as it is stored: a written value above 16 is stored as 16 (R152). -/
def storedShare (v : BitVec 5) : BitVec 5 := if 16 < v.toNat then 16#5 else v

/-- The four verdicts packed two bits a mode, CALM highest, with the lowest bit at `lo`. -/
def verdictsWord (lo : Nat) (v : PerMode Verdict) : Word :=
  place (lo + 6) v.calm.code ||| place (lo + 4) v.fill.code ||| place (lo + 2) v.crowd.code ||| place lo v.surge.code

/-- The four verdicts that a written word stores. -/
def verdictsOf (lo : Nat) (w : Word) : PerMode Verdict where
  calm := Verdict.ofCode (field w (lo + 6) 2)
  fill := Verdict.ofCode (field w (lo + 4) 2)
  crowd := Verdict.ofCode (field w (lo + 2) 2)
  surge := Verdict.ofCode (field w lo 2)

/-- PROFILE words 0 to 12 as they are read. -/
def Profile.word (p : Profile) (i : Nat) : Word :=
  match i with
  | 0 => place 16 p.m1 ||| place 0 p.m2
  | 1 => place 16 p.m3 ||| place 0 p.hysteresis
  | 2 => place 16 p.dwellFill ||| place 0 p.dwellCrowd
  | 3 => place 16 p.dwellSurge ||| place 0 p.staleTime
  | 4 => place 16 p.fMin ||| place 0 p.fMax
  | 5 => place 28 p.floors.calm ||| place 24 p.floors.fill ||| place 20 p.floors.crowd ||| place 16 p.floors.surge
      ||| place 0 p.fInit
  | 6 => place 16 p.sUp ||| place 0 p.sDown
  | 7 => place 24 p.quantum ||| place 16 p.refill ||| place 0 p.drawLifetime
  | 8 => place 24 p.shares.calm ||| place 16 p.shares.fill ||| place 8 p.shares.crowd ||| place 0 p.shares.surge
  | 9 => place 24 p.caps.calm ||| place 16 p.caps.fill ||| place 8 p.caps.crowd ||| place 0 p.caps.surge
  | 10 => place 16 p.idleTime ||| place 0 p.lingerTime
  | 11 => place 16 p.maxLifetime ||| place 12 p.lapseLimit ||| place 8 p.defaultClass
  | 12 => verdictsWord 8 p.stray ||| verdictsWord 0 p.straggler
  | _ => 0#32

/-- A profile after a write of word `i`: each field the word holds is stored with its replacements (R150 to R154). -/
def Profile.store (p : Profile) (i : Nat) (w : Word) : Profile :=
  match i with
  | 0 => { p with m1 := field w 16 16, m2 := field w 0 16 }
  | 1 => { p with m3 := field w 16 16, hysteresis := field w 0 16 }
  | 2 => { p with dwellFill := atLeastOne (field w 16 16), dwellCrowd := atLeastOne (field w 0 16) }
  | 3 => { p with dwellSurge := atLeastOne (field w 16 16), staleTime := field w 0 16 }
  | 4 => { p with fMin := atLeastOne (field w 16 14), fMax := atLeastOne (field w 0 14) }
  | 5 => { p with
      floors := ⟨field w 28 3, field w 24 3, field w 20 3, field w 16 3⟩
      fInit := atLeastOne (field w 0 14) }
  | 6 => { p with sUp := atLeastOne (field w 16 12), sDown := atLeastOne (field w 0 12) }
  | 7 => { p with quantum := atLeastOne (field w 24 8), refill := field w 16 8, drawLifetime := field w 0 16 }
  | 8 => { p with
      shares := ⟨storedShare (field w 24 5), storedShare (field w 16 5), storedShare (field w 8 5),
        storedShare (field w 0 5)⟩ }
  | 9 => { p with caps := ⟨field w 24 8, field w 16 8, field w 8 8, field w 0 8⟩ }
  | 10 => { p with idleTime := field w 16 16, lingerTime := field w 0 16 }
  | 11 => { p with
      maxLifetime := field w 16 16
      lapseLimit := atLeastOne (field w 12 3)
      defaultClass := atLeastOne (field w 8 3) }
  | 12 => { p with stray := verdictsOf 8 w, straggler := verdictsOf 0 w }
  | _ => p

/-! ## EXEMPT and METER words (R31, R164, R170, R175) -/

/-- EXEMPT words 0 to 2 as they are read. -/
def Window.word (x : Window) (i : Nat) : Word :=
  match i with
  | 0 => placeBit 31 x.enabled ||| placeBit 30 x.scopeAny ||| place 0 x.scopePort
  | 1 => place 0 x.base
  | 2 => place 0 x.mask
  | _ => 0#32

/-- A window after a write of word `i`: stored as written (R31). -/
def Window.store (x : Window) (i : Nat) (w : Word) : Window :=
  match i with
  | 0 => { x with enabled := bit w 31, scopeAny := bit w 30, scopePort := field w 0 8 }
  | 1 => { x with base := field w 0 24 }
  | 2 => { x with mask := field w 0 24 }
  | _ => x

/-- METER words 0 to 5 as they are read. -/
def Meter.word (m : Meter) (i : Nat) : Word :=
  match i with
  | 0 => placeBit 28 m.overflowAttention ||| place 24 m.reloadControl.code ||| place 20 m.disableSource.code
      ||| place 16 m.enableSource.code ||| place 8 m.event.code ||| place 0 m.port
  | 1 => place 0 (m.count.extractLsb' 0 32)
  | 2 => place 0 (m.count.extractLsb' 32 8)
  | 3 => place 0 (m.reload.extractLsb' 0 32)
  | 4 => place 0 (m.reload.extractLsb' 32 8)
  | 5 => placeBit 1 m.counting ||| placeBit 0 m.overflowed
  | _ => 0#32

/-- A meter after a configuration write: the fields are stored and counting is set from the enable source (R166). -/
def Meter.configure (m : Meter) (w : Word) : Meter :=
  { m with
    port := field w 0 6
    event := MeterEvent.ofCode (field w 8 4)
    enableSource := EnableSource.ofCode (field w 16 2)
    disableSource := DisableSource.ofCode (field w 20 2)
    reloadControl := ReloadControl.ofCode (field w 24 2)
    overflowAttention := bit w 28
    counting := decide (EnableSource.ofCode (field w 16 2) = .always) }

/-- A 40-bit value after a load of its low word (`high` false) or its high word (`high` true) (R170). -/
def loadPart (v : BitVec 40) (high : Bool) (w : Word) : BitVec 40 :=
  if high then field w 0 8 ++ v.extractLsb' 0 32 else v.extractLsb' 32 8 ++ w

/-- A meter after a write of a count word: that part of the count and of the reload value takes the value written
(R170). -/
def Meter.load (m : Meter) (high : Bool) (w : Word) : Meter :=
  { m with count := loadPart m.count high w, reload := loadPart m.reload high w }

/-! ## Registers of the Management Port (R172 to R174) -/

/-- The word of COMMAND that carries a code, a port field and a tag field (R173). -/
def commandWord (code : BitVec 8) (port : BitVec 8) (tag : Tag) : Word :=
  place 24 code ||| place 16 port ||| place 0 tag

/-- COMMAND_RESULT as it is read (R173). -/
def CommandResult.word (r : CommandResult) : Word :=
  place 24 r.sequence ||| place 16 r.code ||| place 0 r.result.code

/-- TABLE_SELECT as it is read (R174). -/
def TableSelect.toWord (t : TableSelect) : Word := place 29 t.table ||| place 8 t.entry ||| place 0 t.word

/-- TABLE_SELECT after a write (R174). -/
def TableSelect.ofWord (w : Word) : TableSelect := ⟨field w 29 3, field w 8 21, field w 0 8⟩

/-- The word field advanced by one, wrapping from 255 to 0; the table and the entry stay (R174). -/
def TableSelect.advance (t : TableSelect) : TableSelect := { t with word := t.word + 1#8 }

/-- The table word that TABLE_SELECT names: an entry and a word within the table's bounds, or none (R174, R175). -/
inductive Target where
  | profile (number word : Nat)
  | port (number word : Nat)
  | gather (slot word : Nat)
  | roster (slot position word : Nat)
  | exempt (number word : Nat)
  | meter (number word : Nat)
  | absent
  deriving DecidableEq, Repr

/-- The table word named: the entry must lie in its table and the word at or before the entry's last word (R174, R175
note 1). -/
def TableSelect.target (t : TableSelect) : Target :=
  let e := t.entry.toNat
  let w := t.word.toNat
  match t.table.toNat with
  | 0 => if e < Config.profiles ∧ w ≤ 12 then .profile e w else .absent
  | 1 => if e < Config.ports ∧ w ≤ 3 then .port e w else .absent
  | 2 => if e < Config.slots ∧ w ≤ 5 then .gather e w else .absent
  | 3 => if w ≤ 4 then .roster (e / 256) (e % 256) w else .absent
  | 4 => if e < Config.windows ∧ w ≤ 2 then .exempt e w else .absent
  | 5 => if e < Config.meters ∧ w ≤ 5 then .meter e w else .absent
  | _ => .absent

end Sys2Proof.Machine
end

