-- ==== Sys2Proof/WellFormed.lean ====
section
/-! DEFINITION. Well-formed commands: the operands that the manual's events can carry. -/

namespace Sys2Proof

open Machine

/-- A framed message of the signal space that R14 discards on arrival: its code names no signal kind, its length is not
its kind's, or it is an EMIT_CREDIT whose count is 0. -/
def undefinedSignalWords (m : List Word) : Bool :=
  !m.isEmpty && decide (8 ≤ (kindOf m).toNat) &&
    (!lengthLegal m || (kindOf m == 9#4 && creditsOf m == 0#8))

/-- The operands of a command are ones that its event can carry.

* A query has a code of the query space, and a discarded signal is one that R14 discards (the link frames no message
  without a word, log 19).
* An EMIT_CREDIT adds 1 to 255 (R23).
* A port, a slot or a roster position of an expiry is one the part has (R1, R42, R74).
* BAD_COMMAND is a code outside 0x01 to 0x06 (R173).
* A REGISTER_WRITE of a whole word names no register whose writes have a row of their own (R172). -/
def Instr.wellFormed : Instr → Bool
  | .partReset => true
  | .lossOfFraming => true
  | .framingAcquired => true
  | .queryArrival words => isQuery words
  | .undefinedSignal words => undefinedSignalWords words
  | .openQuery => true
  | .extendQuery => true
  | .reclassQuery => true
  | .closeQuery => true
  | .arriveQuery => true
  | .undefinedQuery => true
  | .answer => true
  | .drawEmission => true
  | .staleDiscard => true
  | .emitCredit count => decide (count ≠ 0#8)
  | .linkReset => true
  | .report _ _ => true
  | .dwellExpiry port => decide (port < Config.ports)
  | .staleExpiry port => decide (port < Config.ports)
  | .drawDeadlineExpiry slot position => decide (slot < Config.slots) && decide (position < Config.rosterLimit)
  | .idleExpiry slot => decide (slot < Config.slots)
  | .lifetimeExpiry slot => decide (slot < Config.slots)
  | .lingerExpiry slot => decide (slot < Config.slots)
  | .enablePort _ _ => true
  | .disablePort _ _ => true
  | .retireGather _ _ => true
  | .purgeAll _ _ => true
  | .metersStart _ _ => true
  | .metersStop _ _ => true
  | .badCommand code _ _ => decide (code = 0#8) || decide (6#8 < code)
  | .profileWrite _ => true
  | .profileNumberWrite _ => true
  | .adminFloorWrite _ => true
  | .portStatusRead => true
  | .exemptWrite _ => true
  | .meterConfigWrite _ => true
  | .meterCountWrite _ => true
  | .meterFlagClear _ => true
  | .tableWindowRead => true
  | .attnSummaryWrite _ => true
  | .attnEnableWrite _ => true
  | .poolLowMarkWrite _ => true
  | .registerWrite index lanes _ =>
      !(lanes == 0xF#4 && (index == 1#4 || index == 5#4 || index == 6#4 || index == 7#4))
  | .timebaseAdvance => true

end Sys2Proof
end

