-- ==== Sys2Proof/Decode.lean ====
section
/-! DEFINITION. The command that a word or a framed message spells. -/

namespace Sys2Proof

open Machine

/-- The command that a word spells by the opcode table's bits. The table gives bits to none of its rows (the reader
counts no row with fixed bits or fields), so no word spells a command (log 14). -/
def decodeTableWord (_nbits _w : Nat) : Option Instr := none

/-- The command that a framed message on LKL_RX is, by its kind code and its length (R14, R15, R29): a query, a signal, or
a signal that is discarded. The link frames no message without a word (log 19). -/
def receive (m : List Word) : Option Instr :=
  if m.isEmpty then none
  else if isQuery m then some (.queryArrival m)
  else if undefinedSignalWords m then some (.undefinedSignal m)
  else if kindOf m = 8#4 then some (.report (field (wordAt m 0) 0 8) (depthOf m))
  else if kindOf m = 9#4 then some (.emitCredit (creditsOf m))
  else some .linkReset

end Sys2Proof
end

