-- ==== Sys2Proof/Machine/Table.lean ====
section
/-! DEFINITION. The named operations on storage: canonical tables, the pool free list, points on the timebase, and the part
reset values that an unlisted entry of a table reads as. -/

namespace Sys2Proof.Machine

/-! ## Tables (log 11) -/

/-- The entry of a number: the listed one, else the part reset value `d`. -/
def Table.get {α : Type} (d : α) : Table α → Nat → α
  | [], _ => d
  | (j, v) :: t, k => if j = k then v else Table.get d t k

/-- A table without any entry of a number. -/
def Table.erase {α : Type} (t : Table α) (k : Nat) : Table α := t.filter fun e => e.1 ≠ k

/-- An entry put before the first greater number. -/
def Table.insert {α : Type} : Table α → Nat → α → Table α
  | [], k, v => [(k, v)]
  | (j, w) :: t, k, v => if k < j then (k, v) :: (j, w) :: t else (j, w) :: Table.insert t k v

/-- The table after entry `k` becomes `v`; the part reset value `d` is not listed. -/
def Table.set {α : Type} [DecidableEq α] (d : α) (t : Table α) (k : Nat) (v : α) : Table α :=
  if v = d then Table.erase t k else Table.insert (Table.erase t k) k v

/-- The canonical form: the numbers strictly rise and no entry equals the part reset value. -/
abbrev Table.wf {α : Type} (d : α) (t : Table α) : Prop :=
  t.Pairwise (fun a b => a.1 < b.1) ∧ ∀ e ∈ t, e.2 ≠ d

/-- The listed numbers, in rising order in a canonical table. -/
def Table.keys {α : Type} (t : Table α) : List Nat := t.map Prod.fst

/-! ## Part reset values -/

/-- A slot at part reset: FREE with generation 0 (R43). -/
def Slot.reset : Slot := ⟨0#8, none⟩

/-- A window at part reset (R31; the scope port bits beside ANY are log 2's). -/
def Window.reset : Window := ⟨false, true, 0#8, 0#24, 0#24⟩

/-- A meter at part reset (R164). -/
def Meter.reset : Meter := ⟨0#6, .cellsPassed, .never, .never, .never, 0#40, false, 0#40, false, false⟩

/-- A port at part reset (R97, R120, R156). -/
def Port.reset : Port where
  enabled := false
  profile := 0#3
  adminFloor := 0#3
  mode := .calm
  dwell := .absent
  staleAt := none
  stale := false
  flight := 1024
  atFloor := false
  atCeiling := false
  effFloor := 0
  outstanding := 0
  queues := []
  blocked := false

/-- A profile at part reset: the defaults of R150 to R153. -/
def Profile.reset : Profile where
  m1 := 256#16
  m2 := 1024#16
  m3 := 3072#16
  hysteresis := 128#16
  dwellFill := 200#16
  dwellCrowd := 500#16
  dwellSurge := 1000#16
  staleTime := 100#16
  fMin := 64#14
  fMax := 4096#14
  fInit := 1024#14
  floors := ⟨0#3, 0#3, 2#3, 4#3⟩
  sUp := 32#12
  sDown := 128#12
  quantum := 32#8
  refill := 8#8
  drawLifetime := 500#16
  shares := ⟨16#5, 12#5, 8#5, 4#5⟩
  caps := ⟨64#8, 32#8, 16#8, 4#8⟩
  idleTime := 2000#16
  lingerTime := 200#16
  maxLifetime := 1000#16
  lapseLimit := 3#3
  defaultClass := 4#3
  stray := ⟨.pass, .pass, .mark, .trim⟩
  straggler := ⟨.pass, .mark, .trim, .trim⟩

/-! ## The pool free list (R69, R70, log 12) -/

/-- The free list as the list of its entry numbers, head first. -/
def freeEntries (f : List Run) : List Nat := f.flatMap fun r => List.range' r.first r.count

/-- How many entries are free. -/
def freeCount (f : List Run) : Nat := (f.map Run.count).sum

/-- A take: the entry number at the head and the rest of the list, or none from an empty list (R70). -/
def takeFree : List Run → Option (Nat × List Run)
  | [] => none
  | ⟨_, 0⟩ :: rest => takeFree rest
  | ⟨a, 1⟩ :: rest => some (a, rest)
  | ⟨a, n + 2⟩ :: rest => some (a, ⟨a + 1, n + 1⟩ :: rest)

/-- The free list with one entry number appended at the tail (R48). -/
def appendFree : List Run → Nat → List Run
  | [], e => [⟨e, 1⟩]
  | [⟨a, n⟩], e => if a + n = e then [⟨a, n + 1⟩] else [⟨a, n⟩, ⟨e, 1⟩]
  | r :: r' :: rest, e => r :: appendFree (r' :: rest) e

/-- The canonical form of the free list: no run is empty, and no run continues the one before it. -/
abbrev freeWf (f : List Run) : Prop :=
  (∀ r ∈ f, 0 < r.count) ∧ f.IsChain (fun a b => a.first + a.count ≠ b.first)

/-! ## Points on the timebase (R11, R13) -/

/-- The point a duration in microseconds after a time, modulo 2^32 (R11). -/
def after (now : Time) (duration : Nat) : Time := now + BitVec.ofNat 32 duration

/-- A deadline armed with a duration; none where the duration is 0. -/
def armUnlessZero (now : Time) (duration : Nat) : Option Time :=
  if duration = 0 then none else some (after now duration)

/-- A deadline has been reached: the timebase minus the deadline, modulo 2^32, is below 2^31 (R11). -/
def reached (now deadline : Time) : Bool := decide ((now - deadline).toNat < 2 ^ 31)

/-- A deadline that may be absent is due. -/
def due (now : Time) : Option Time → Bool
  | none => false
  | some d => reached now d

/-- The remaining time of a timer suspended at `now`: the deadline minus the time, or 0 where it has been reached
(R13). -/
def remaining (now deadline : Time) : Nat := if reached now deadline then 0 else (deadline - now).toNat

/-- A suspended timer (R13, R108). -/
def Timer.suspend (now : Time) : Timer → Timer
  | .absent => .absent
  | .armed d => .suspended (remaining now d)
  | .suspended r => .suspended r

/-- A resumed timer (R13, R100). -/
def Timer.resume (now : Time) : Timer → Timer
  | .absent => .absent
  | .armed d => .armed d
  | .suspended r => .armed (after now r)

/-- A running timer whose deadline has been reached. -/
def Timer.isDue (now : Time) : Timer → Bool
  | .armed d => reached now d
  | _ => false

end Sys2Proof.Machine
end

