-- ==== Sys2Proof/Machine/Flags.lean ====
section
/-! DEFINITION. The flag computations: attention sources and the pin ATTN_N (R176, R177), the meters' increments, overflow
flags and counting (R165 to R169), and the flight limit's bounds with the at-floor and at-ceiling flags (R112). -/

namespace Sys2Proof.Machine

/-! ## Attention -/

/-- A source is raised: its summary bit is set (R176). -/
def State.raise (src : AttnSource) (s : State) : State := { s with attn := s.attn ||| src.bit }

/-- A source is raised where a condition holds. -/
def State.raiseIf (b : Bool) (src : AttnSource) (s : State) : State :=
  { s with attn := if b then s.attn ||| src.bit else s.attn }

/-- ATTN_N is driven low: some source has both its summary bit and its enable bit set (R177). -/
def State.attnDriven (s : State) : Bool := s.attn &&& s.attnEnable ≠ 0#7

/-! ## Meters -/

/-- The port field of a meter of ALL (R175). -/
def meterAll : BitVec 6 := 63#6

/-- Each of the sixteen meters changed by `f`. -/
def mapMeters (f : Meter → Meter) (bank : Table Meter) : Table Meter :=
  (List.range Config.meters).foldl (fun b k => Table.set Meter.reset b k (f (Table.get Meter.reset b k))) bank

/-- A meter takes an offer made for the port field `sel` (R165). -/
def Meter.accepts (m : Meter) (sel : BitVec 6) (ev : MeterEvent) : Bool :=
  m.counting && decide (m.event = ev) && decide (m.port = sel)

/-- The increment overflows the count (R169). -/
def Meter.overflows (m : Meter) (inc : Nat) : Bool := decide (2 ^ 40 ≤ m.count.toNat + inc)

/-- A meter that has taken an increment (R169). The sum less 2^40 is the sum modulo 2^40. -/
def Meter.add (m : Meter) (inc : Nat) : Meter :=
  if m.overflows inc then
    { m with
      count := if m.reloadControl = .overflow then m.reload else m.count + BitVec.ofNat 40 inc
      overflowed := true
      counting := m.counting && !(decide (m.disableSource = .overflow) && decide (m.enableSource ≠ .always)) }
  else { m with count := m.count + BitVec.ofNat 40 inc }

/-- Some meter that takes the offer overflows with its overflow attention enabled (R169). -/
def offerRaises (sel : BitVec 6) (ev : MeterEvent) (inc : Nat) (bank : Table Meter) : Bool :=
  (List.range Config.meters).any fun k =>
    let m := Table.get Meter.reset bank k
    m.accepts sel ev && m.overflows inc && m.overflowAttention

/-- An offer made for one port field: each meter that takes it adds the increment, and an overflow may raise
METER_OVERFLOW (R165, R169). -/
def State.offerTo (sel : BitVec 6) (ev : MeterEvent) (inc : Nat) (s : State) : State :=
  { s with
    meters := mapMeters (fun m => if m.accepts sel ev then m.add inc else m) s.meters
    attn := if offerRaises sel ev inc s.meters then s.attn ||| AttnSource.meterOverflow.bit else s.attn }

/-- An offer made for a port and for ALL (R165). -/
def State.offer (p : Nat) (ev : MeterEvent) (inc : Nat) (s : State) : State :=
  (s.offerTo (BitVec.ofNat 6 p) ev inc).offerTo meterAll ev inc

/-- METERS_START at one meter (R167). -/
def Meter.started (m : Meter) : Meter :=
  { m with
    count := if m.reloadControl = .start then m.reload else m.count
    counting := m.counting || decide (m.enableSource = .start) }

/-- METERS_STOP at one meter (R166, R167): a meter of enable source ALWAYS is not turned off. -/
def Meter.stopped (m : Meter) : Meter :=
  { m with counting := m.counting && !(decide (m.disableSource = .stop) && decide (m.enableSource ≠ .always)) }

/-- The SURGE entry source of port `p` at one meter (R168). -/
def Meter.surgeEntered (p : Nat) (m : Meter) : Meter :=
  { m with
    counting := m.counting || (decide (m.port = BitVec.ofNat 6 p) && decide (m.enableSource = .surgeEntry)) }

/-- The SURGE exit source of port `p` at one meter (R166, R168). -/
def Meter.surgeExited (p : Nat) (m : Meter) : Meter :=
  { m with
    counting := m.counting &&
      !(decide (m.port = BitVec.ofNat 6 p) && decide (m.disableSource = .surgeExit) &&
        decide (m.enableSource ≠ .always)) }

/-! ## The flight limit's bounds -/

/-- F_maxe, the larger of F_max and F_min (R112). -/
def Profile.fMaxe (pf : Profile) : Nat := max pf.fMax.toNat pf.fMin.toNat

/-- F brought into the range F_min to F_maxe, latching at-floor or at-ceiling (R112, R154, R157). -/
def Port.bring (pf : Profile) (f : Int) (pt : Port) : Port :=
  if f < (pf.fMin.toNat : Int) then { pt with flight := pf.fMin.toNat, atFloor := true }
  else if (pf.fMaxe : Int) < f then { pt with flight := pf.fMaxe, atCeiling := true }
  else { pt with flight := f.toNat }

end Sys2Proof.Machine
end

