-- ==== Sys2Proof/Machine/Members.lean ====
section
/-! DEFINITION. The Roster Pool's operations on one gather and its members: charging, trimming and finishing (R78 to R84),
wanting more and need (R86 to R89), departure, reclaim and the exit from ACTIVE (R91 to R94, R45), and the tests of
completion (R59) and of the opening allowance (R53). -/

namespace Sys2Proof.Machine

/-! ## Finding and changing members -/

/-- The member of a pool entry number. -/
def Gather.member? (g : Gather) (e : Nat) : Option Member := g.roster.find? fun m => m.entry == e

/-- The member of a token (R2). -/
def Gather.byToken (g : Gather) (t : Token) : Option Member := g.roster.find? fun m => m.token == t

/-- The roster with the member of `m`'s entry number replaced by `m`. -/
def Gather.setMember (g : Gather) (m : Member) : Gather :=
  { g with roster := g.roster.map fun x => if x.entry = m.entry then m else x }

/-- The gather stands on a class queue: ACTIVE, not suspended, with a wait ring that is not empty (R123). -/
def Gather.queued (g : Gather) : Bool := decide (g.stage = .active) && !g.suspended && !g.ring.isEmpty

/-- The cells of the gather's draws that have been issued and not returned (R121). -/
def Gather.owed (g : Gather) : Nat := (g.roster.map fun m => m.drawQueued + m.drawOut).sum

/-! ## The opening allowance -/

/-- The effective count n': the larger of the announced count and the listed entries, at most 256 and at least 1 (R53). -/
def effectiveCount (announced listed : Nat) : Nat := max 1 (min 256 (max announced listed))

/-- The opening allowance A for a flight limit and mode (R53). -/
def openingAllowance (pf : Profile) (flight : Nat) (mode : Mode) (announced listed : Nat) : Nat :=
  min (pf.caps.get mode).toNat
    (flight * (pf.shares.get mode).toNat / (16 * effectiveCount announced listed))

/-! ## Wanting more -/

/-- The refill mark in use: the stored value where it is below Q, else Q − 1 (R86, R151). -/
def Profile.refillMark (pf : Profile) : Nat :=
  if pf.refill.toNat < pf.quantum.toNat then pf.refill.toNat else pf.quantum.toNat - 1

/-- The draw lifetime in use: 65,535 µs where the stored value is 0 (R92, R151). -/
def Profile.drawLife (pf : Profile) : Nat :=
  if pf.drawLifetime = 0#16 then 65535 else pf.drawLifetime.toNat

/-- The lapse limit in use: 1 where 0 is stored (R94). -/
def Profile.lapses (pf : Profile) : Nat := max 1 pf.lapseLimit.toNat

/-- The member wants more (R86). -/
def Member.wantsMore (pf : Profile) (m : Member) : Bool :=
  decide (m.phase ≠ .finished) && decide (m.phase ≠ .lapsed) && decide (m.openLeft = 0) &&
    decide (m.drawQueued = 0) && decide (m.drawOut ≤ pf.refillMark) &&
    (match m.expected with
      | none => true
      | some e => decide (m.passed + m.drawOut < e) || decide (m.drawOut = 0))

/-- The need of a member: E − passed − draw-out where E is present and that is 1 or more, else Q (R89). -/
def Member.need (pf : Profile) (m : Member) : Nat :=
  match m.expected with
  | none => pf.quantum.toNat
  | some e => if m.passed + m.drawOut < e then e - (m.passed + m.drawOut) else pf.quantum.toNat

/-- The draw size d: the smaller of Q and the need (R89). -/
def Member.drawSize (pf : Profile) (m : Member) : Nat := min pf.quantum.toNat (m.need pf)

/-- The re-evaluation of the member of entry number `e` (R87): it joins the tail of the wait ring where it wants more. -/
def Gather.reevaluate (pf : Profile) (e : Nat) (g : Gather) : Gather :=
  match g.member? e with
  | none => g
  | some m =>
    if g.stage ≠ .active ∨ m.phase = .finished ∨ m.phase = .lapsed ∨ e ∈ g.ring then g
    else if m.wantsMore pf then { g.setMember { m with phase := .waiting } with ring := g.ring ++ [e] }
    else g.setMember { m with phase := if 0 < m.openLeft then .opening else .drawn }

/-! ## Taking an entry -/

/-- A pool entry as it is taken for a record with opening allowance `allowance` (R72). Where A is 0 the phase is the one
from which the re-evaluation of R87 makes it WAITING. -/
def Member.taken (e : Nat) (t : Token) (announced : Bool) (expected : Option Nat) (allowance : Nat) : Member where
  entry := e
  token := t
  announced := announced
  expected := expected
  phase := if 0 < allowance then .opening else .drawn
  openLeft := allowance
  drawQueued := 0
  drawOut := 0
  passed := 0
  trims := 0
  lapses := 0
  drawDeadline := none

/-- The gather with a member added at the tail of its roster, re-evaluated where A is 0 (R51, R75). -/
def Gather.addMember (pf : Profile) (e : Nat) (t : Token) (announced : Bool) (expected : Option Nat) (g : Gather) :
    Gather :=
  let g' := { g with roster := g.roster ++ [Member.taken e t announced expected g.allowance] }
  if g.allowance = 0 then g'.reevaluate pf e else g'

/-! ## Charging an arrival -/

/-- A trims count grown by 1, held at 255 (R84). -/
def trimsUp (n : Nat) : Nat := min (n + 1) Config.trimsLimit

/-- PASS in CALM and FILL, MARK in CROWD and SURGE (R79). -/
def Mode.passOrMark : Mode → Verdict
  | .calm => .pass
  | .fill => .pass
  | .crowd => .mark
  | .surge => .mark

/-- The cells an arrival of `c` cells takes from draw-out: x2 of R78. -/
def Member.fromDraws (c : Nat) (m : Member) : Nat := c - min c m.openLeft

/-- A member charged with `c` cells within its allowance (R78). -/
def Member.charge (pf : Profile) (now : Time) (c : Nat) (m : Member) : Member :=
  let x2 := m.fromDraws c
  let out := m.drawOut - x2
  { m with
    openLeft := m.openLeft - min c m.openLeft
    drawOut := out
    passed := min (m.passed + c) Config.passedLimit
    drawDeadline :=
      if out = 0 then none
      else if 0 < x2 ∧ m.drawQueued = 0 then some (after now pf.drawLife)
      else m.drawDeadline }

/-- A member trimmed over its limit (R80). -/
def Member.overLimit (m : Member) : Member :=
  { m with openLeft := 0, drawOut := 0, trims := trimsUp m.trims, drawDeadline := none }

/-- A finished member (R81). -/
def Member.finish (m : Member) : Member :=
  { m with openLeft := 0, drawQueued := 0, drawOut := 0, drawDeadline := none, phase := .finished }

/-- The gather with a member finished and off the wait ring (R81). -/
def Gather.finishMember (m : Member) (g : Gather) : Gather :=
  { g.setMember m.finish with ring := g.ring.filter (· ≠ m.entry) }

/-- What the handling of an arrival does: the gather after it, the cells returned, the verdict, and whether its member
finished. -/
structure Handled where
  gather : Gather
  returned : Nat
  verdict : Verdict
  finished : Bool
  deriving DecidableEq, Repr

/-- The arrival of an OPENING, WAITING or DRAWN member: charged within its allowance (R78), the last flag then applied
(R81), or trimmed over the limit (R80); a member that did not finish is re-evaluated (R87). -/
def Gather.chargeOrTrim (pf : Profile) (now : Time) (mode : Mode) (c : Nat) (last : Bool) (m : Member) (g : Gather) :
    Handled :=
  if c ≤ m.openLeft + m.drawOut then
    let m' := m.charge pf now c
    if last then ⟨g.finishMember m', m.fromDraws c + (m'.drawQueued + m'.drawOut), mode.passOrMark, true⟩
    else ⟨(g.setMember m').reevaluate pf m.entry, m.fromDraws c, mode.passOrMark, false⟩
  else ⟨(g.setMember m.overLimit).reevaluate pf m.entry, m.drawOut, .trim, false⟩

/-- The arrival of a FINISHED member (R82). -/
def Gather.handleFinished (mode : Mode) (c : Nat) (m : Member) (g : Gather) : Handled :=
  if c = 0 then ⟨g, 0, mode.passOrMark, false⟩
  else ⟨g.setMember { m with trims := trimsUp m.trims }, 0, .trim, false⟩

/-- A revived member, before the re-evaluation that makes it WAITING (R83). -/
def Member.revived (m : Member) : Member := { m with trims := trimsUp m.trims, lapses := 0, phase := .drawn }

/-- The arrival of a LAPSED member (R83). -/
def Gather.handleLapsed (pf : Profile) (mode : Mode) (c : Nat) (last : Bool) (m : Member) (g : Gather) : Handled :=
  if c = 0 then
    if last then ⟨g.finishMember m, m.drawQueued + m.drawOut, mode.passOrMark, true⟩
    else ⟨g, 0, mode.passOrMark, false⟩
  else ⟨(g.setMember m.revived).reevaluate pf m.entry, 0, .trim, false⟩

/-- Steps 2 to 4 of R85 for a member found or joined, by its phase (R77). -/
def Gather.handle (pf : Profile) (now : Time) (mode : Mode) (c : Nat) (last : Bool) (m : Member) (g : Gather) :
    Handled :=
  match m.phase with
  | .opening => g.chargeOrTrim pf now mode c last m
  | .waiting => g.chargeOrTrim pf now mode c last m
  | .drawn => g.chargeOrTrim pf now mode c last m
  | .finished => g.handleFinished mode c m
  | .lapsed => g.handleLapsed pf mode c last m

/-! ## Draws -/

/-- A member to which a draw of `d` cells is issued (R90). -/
def Member.issued (d : Nat) (m : Member) : Member :=
  { m with drawQueued := d, phase := .drawn, drawDeadline := none }

/-- The gather after its head member is issued a draw of `d` cells (R90). -/
def Gather.issue (d : Nat) (m : Member) (g : Gather) : Gather :=
  { g.setMember (m.issued d) with ring := g.ring.tail }

/-- A member whose queued draw departs (R91). -/
def Member.departed (pf : Profile) (now : Time) (m : Member) : Member :=
  { m with
    drawOut := m.drawOut + m.drawQueued
    drawQueued := 0
    drawDeadline := some (after now pf.drawLife) }

/-- A member whose queued draw a link reset returns; its draw-out, where it holds any, is covered by a fresh deadline
(R28, R92). -/
def Member.unqueued (pf : Profile) (now : Time) (m : Member) : Member :=
  { m with
    drawQueued := 0
    drawDeadline := if 0 < m.drawOut then some (after now pf.drawLife) else m.drawDeadline }

/-- A member whose draw is reclaimed (R93). -/
def Member.reclaimed (m : Member) : Member :=
  { m with drawOut := 0, drawDeadline := none, lapses := m.lapses + 1 }

/-- The gather with a member lapsed and off the wait ring (R94). -/
def Gather.lapseMember (m : Member) (g : Gather) : Gather :=
  { g.setMember { m with phase := .lapsed, openLeft := 0, drawQueued := 0, drawOut := 0, drawDeadline := none } with
    ring := g.ring.filter (· ≠ m.entry) }

/-! ## Completion and the exit from ACTIVE -/

/-- The completion threshold (R59). -/
def Gather.threshold (g : Gather) : Nat := max 1 (min g.announced 256)

/-- The completion test (R59). -/
def Gather.isComplete (g : Gather) : Bool :=
  (g.roster.all fun m => decide (m.phase = .finished) || decide (m.phase = .lapsed)) &&
    decide (g.threshold ≤ g.roster.length)

/-- A member at its record's exit from ACTIVE (R45 steps 2 and 3). -/
def Member.left (m : Member) : Member :=
  { m with
    drawQueued := 0
    drawOut := 0
    drawDeadline := none
    phase := if m.phase = .waiting then .drawn else m.phase }

/-- The gather at its exit from ACTIVE, before it lingers or goes FREE (R45 steps 2 to 4). -/
def Gather.left (g : Gather) : Gather :=
  { g with roster := g.roster.map Member.left, ring := [], idle := none, lifetime := none }

end Sys2Proof.Machine
end

