-- ==== Sys2Proof/Machine/Ops.lean ====
section
/-! DEFINITION. The named operations on the state: reading and writing its entries, the Gather Index's lookup (R35, R37), the
class queues (R123 to R126), takes from the pool (R70, R71), returns (R122), the endings of a gather (R45 to R48), and the
placing of answers (R18, R19). An operation that may call for a draw pass at the port answers, beside the state, whether
it does (R128): the event runs the pass when all its other changes are made. -/

namespace Sys2Proof.Machine

/-! ## Reading and writing the state's entries -/

/-- Port `p`. -/
def State.port (s : State) (p : Nat) : Port := Table.get Port.reset s.ports p

/-- The state with port `p` replaced. -/
def State.setPort (p : Nat) (v : Port) (s : State) : State :=
  { s with ports := Table.set Port.reset s.ports p v }

/-- Slot `k`. -/
def State.slot (s : State) (k : Nat) : Slot := Table.get Slot.reset s.slots k

/-- The state with slot `k` replaced. -/
def State.setSlot (k : Nat) (v : Slot) (s : State) : State :=
  { s with slots := Table.set Slot.reset s.slots k v }

/-- The record of slot `k`, none where the slot is FREE. -/
def State.gather? (s : State) (k : Nat) : Option Gather := (s.slot k).body

/-- The state with the record of slot `k` replaced. -/
def State.setGather (k : Nat) (g : Gather) (s : State) : State :=
  s.setSlot k ⟨(s.slot k).generation, some g⟩

/-- Profile `n`. -/
def State.profileAt (s : State) (n : Nat) : Profile := Table.get Profile.reset s.profiles n

/-- The profile that port `p` names (R119, R156). -/
def State.profileOf (s : State) (p : Nat) : Profile := s.profileAt (s.port p).profile.toNat

/-- Exempt window `i`. -/
def State.window (s : State) (i : Nat) : Window := Table.get Window.reset s.windows i

/-- Meter `i`. -/
def State.meter (s : State) (i : Nat) : Meter := Table.get Meter.reset s.meters i

/-- The state with each meter changed by `f`. -/
def State.mapMeters (f : Meter → Meter) (s : State) : State := { s with meters := Machine.mapMeters f s.meters }

/-! ## The Gather Index (R35, R37, log 10) -/

/-- The record of slot `k` has the key of port `p` and tag `t` (R1). -/
def State.hasKey (s : State) (p : Nat) (t : Tag) (k : Nat) : Bool :=
  match s.gather? k with
  | none => false
  | some g => decide (g.port = p) && decide (g.tag = t)

/-- The slot that the Gather Index holds for a key: that of the record with the key, in ACTIVE or LINGER. -/
def State.lookup (s : State) (p : Nat) (t : Tag) : Option Nat := s.slots.keys.find? (s.hasKey p t)

/-- The slot and the record that a lookup finds: the record is in ACTIVE or LINGER (R37). -/
def State.lookupGather (s : State) (p : Nat) (t : Tag) : Option (Nat × Gather) :=
  match s.lookup p t with
  | none => none
  | some k => (s.gather? k).map fun g => (k, g)

/-- The lowest-numbered FREE slot (R50). -/
def State.lowestFree (s : State) : Option Nat :=
  (List.range' 0 Config.slots).find? fun k => (s.gather? k).isNone

/-! ## Class queues (R123 to R126) -/

/-- The class queue of a class at a port. -/
def Port.queue (pt : Port) (c : Nat) : List Nat := Table.get [] pt.queues c

/-- The port with a class queue replaced. -/
def Port.setQueue (c : Nat) (q : List Nat) (pt : Port) : Port := { pt with queues := Table.set [] pt.queues c q }

/-- The pending-class set: the classes whose queues are not empty (R124, log 10). -/
def Port.pendingClasses (pt : Port) : List Nat := [1, 2, 3, 4, 5, 6, 7].filter fun c => !(pt.queue c).isEmpty

/-- Slot `k` removed from a class queue, the gathers before and after it in their order (R126). -/
def State.dequeue (p c k : Nat) (s : State) : State :=
  s.setPort p ((s.port p).setQueue c (((s.port p).queue c).filter (· ≠ k)))

/-- Slot `k` appended at the tail of a class queue (R125). -/
def State.enqueue (p c k : Nat) (s : State) : State :=
  s.setPort p ((s.port p).setQueue c ((s.port p).queue c ++ [k]))

/-- The gather stays on the class queue it is on. -/
def keepsPlace (old new : Gather) : Bool := old.queued && new.queued && decide (old.cls = new.cls)

/-- The change from `old` to `new` appends the gather to a class queue, which calls for a draw pass (R125, R128). -/
def appends (old new : Gather) : Bool := new.queued && !keepsPlace old new

/-- The record of slot `k` changes from `old` to `new`, and its place on the class queues with it: it is removed from the
queue it leaves and appended at the tail of the queue it joins (R123, R125, R126). -/
def State.putGather (k : Nat) (old new : Gather) (s : State) : State :=
  let s := if old.queued && !keepsPlace old new then s.dequeue old.port old.cls k else s
  let s := if appends old new then s.enqueue new.port new.cls k else s
  s.setGather k new

/-! ## The pool (R70, R71) -/

/-- A take is refused: POOL_LOW is raised where the pool-low mark is above 0 (R71). -/
def State.refuseTake (s : State) : State := s.raiseIf (decide (0 < s.poolLowMark)) .poolLow

/-- A take of an entry, and the POOL_LOW it may raise (R70, R71). -/
def State.take (s : State) : Option Nat × State :=
  match takeFree s.free with
  | none => (none, s.refuseTake)
  | some (e, rest) =>
    (some e, State.raiseIf (decide (freeCount rest < s.poolLowMark)) .poolLow { s with free := rest })

/-! ## Returns (R122) -/

/-- A return of cells to a port's outstanding draw total, capped at it (R121). -/
def State.giveBack (p cells : Nat) (s : State) : State :=
  s.setPort p { s.port p with outstanding := (s.port p).outstanding - cells }

/-! ## A gather leaves ACTIVE, lingers or goes FREE (R45 to R48) -/

/-- The record of slot `k` leaves ACTIVE: it leaves its class queue, its members' draws are zeroed and returned, its wait
ring is emptied and its idle and lifetime deadlines are removed (R45). -/
def State.leaveActive (k : Nat) (g : Gather) (s : State) : State :=
  (s.putGather k g g.left).giveBack g.port g.owed

/-- Slot `k` goes FREE: its roster is appended to the free list in roster order, its generation advances, and every other
field becomes absent (R48). -/
def State.freeSlot (k : Nat) (g : Gather) (s : State) : State :=
  State.setSlot k ⟨(s.slot k).generation + 1#8, none⟩
    { s with free := (g.roster.map Member.entry).foldl appendFree s.free }

/-- The meter event of an outcome (R46). -/
def Ending.event : Ending → MeterEvent
  | .complete => .gathersComplete
  | .closed => .gathersClosed
  | .idle => .gathersIdle
  | .overdue => .gathersOverdue

/-- An ACTIVE record ends with an outcome: it leaves ACTIVE, then lingers, or goes FREE where the linger time is 0, and the
outcome's meter event is offered (R46). -/
def State.endGather (k : Nat) (g : Gather) (outcome : Ending) (s : State) : State × Bool :=
  let linger := (s.profileOf g.port).lingerTime.toNat
  let s := s.leaveActive k g
  let s :=
    if linger = 0 then s.freeSlot k g
    else s.setGather k { g.left with stage := .linger outcome, lingerAt := some (after s.timebase linger) }
  (s.offer g.port outcome.event 1, decide (0 < g.owed))

/-- A record goes FREE with no outcome, as RETIRE_GATHER frees it (R65, R66, R67). -/
def State.retire (k : Nat) (s : State) : State × Bool :=
  match s.gather? k with
  | none => (s, false)
  | some g =>
    match g.stage with
    | .active => ((s.leaveActive k g).freeSlot k g, decide (0 < g.owed))
    | .linger _ => (s.freeSlot k g, false)

/-- The idle deadline re-armed from a profile: absent where the idle time is 0 (R61). -/
def Gather.rearmIdle (pf : Profile) (now : Time) (g : Gather) : Gather :=
  { g with idle := armUnlessZero now pf.idleTime.toNat }

/-! ## Answers (R17 to R20) -/

/-- The link is UP (R26). -/
def State.isUp (s : State) : Bool := decide (s.link = .up)

/-- The query that may be taken: the head of the Query FIFO, while the link is UP and the Answer FIFO holds fewer than 64
answers (R17). -/
def State.takeable (s : State) : Option (List Word) :=
  if s.isUp && decide (s.answerFifo.length < Config.fifoDepth) then s.queryFifo.head? else none

/-- The Query FIFO without its head (R17). -/
def State.popQuery (s : State) : State := { s with queryFifo := s.queryFifo.tail }

/-- An answer is placed at the tail of the Answer FIFO (R18). -/
def State.appendAnswer (a : Answer) (s : State) : State := { s with answerFifo := s.answerFifo ++ [a] }

/-- The first of the checks 1 to 3 that applies to a query: its status and parameter (R19). -/
def State.linkFault (q : List Word) (s : State) : Option (Status × BitVec 16) :=
  if !lengthLegal q then some (.format, (kindOf q).setWidth 16)
  else if Config.ports ≤ portOf q then some (.portRange, BitVec.ofNat 16 (portOf q))
  else if !(s.port (portOf q)).enabled then some (.portOff, BitVec.ofNat 16 (portOf q))
  else none

/-- The answer's allowance, accepted and class fields are stated for a fault-free OPEN or EXTEND and are 0 for every other
kind (R29): a faulted OPEN or EXTEND alone carries a free value there (log 3). -/
def isListing (q : List Word) : Bool := decide (kindOf q = 1#4) || decide (kindOf q = 2#4)

/-- The answer of a faulted query (R19). -/
def faultAnswer (q : List Word) (status : Status) (parameter : BitVec 16) (free : BitVec 16) : Answer where
  kind := kindOf q
  status := status
  ruling := none
  parameter := parameter
  allowance := if isListing q then free.extractLsb' 8 8 else 0#8
  accepted := if isListing q then free.extractLsb' 3 5 else 0#5
  cls := if isListing q then free.extractLsb' 0 3 else 0#3

/-- A faulted query is counted by QUERY_FAULTS, for ALL alone where the fault is FORMAT or PORT_RANGE (R19). -/
def State.countFault (q : List Word) (status : Status) (s : State) : State :=
  match status with
  | .format => s.offerTo meterAll .queryFaults 1
  | .portRange => s.offerTo meterAll .queryFaults 1
  | _ => s.offer (portOf q) .queryFaults 1

/-- A query is answered with a fault (R19). -/
def State.fault (q : List Word) (status : Status) (parameter : BitVec 16) (s : State) : State :=
  let a := faultAnswer q status parameter (Config.faultedGrant s.freeIndex)
  State.appendAnswer a { s.countFault q status with freeIndex := s.freeIndex + if isListing q then 1 else 0 }

/-- A query is answered OK with a slot: RECLASS, CLOSE (R20). -/
def State.answerSlot (q : List Word) (k : Nat) (s : State) : State :=
  s.appendAnswer ⟨kindOf q, .ok, none, BitVec.ofNat 16 k, 0#8, 0#5, 0#3⟩

/-- A query is answered OK with a slot, A, the accepted count and the class: OPEN, EXTEND (R20). -/
def State.answerGrant (q : List Word) (k allowance accepted cls : Nat) (s : State) : State :=
  s.appendAnswer ⟨kindOf q, .ok, none, BitVec.ofNat 16 k, BitVec.ofNat 8 allowance, BitVec.ofNat 5 accepted,
    BitVec.ofNat 3 cls⟩

/-- An ARRIVE is answered OK with its verdict, basis and parameter (R21). -/
def State.answerVerdict (q : List Word) (v : Verdict) (b : Basis) (parameter : Nat) (s : State) : State :=
  s.appendAnswer ⟨kindOf q, .ok, some (v, b), BitVec.ofNat 16 parameter, 0#8, 0#5, 0#3⟩

end Sys2Proof.Machine
end

