-- ==== Sys2Proof/Machine/Sched.lean ====
section
/-! DEFINITION. The Draw Schedulers and the Emission Arbiter: the draw pass (R127 to R134), the departure test (R137), the
round-robin order of passes (R128), the handing of places (R142) and the serving that follows a link reset (R144). -/

namespace Sys2Proof.Machine

/-! ## The draw pass -/

/-- The highest eligible class with a queued gather: strictly above the effective floor (R127, R129). -/
def Port.topClass (pt : Port) : Option Nat :=
  [7, 6, 5, 4, 3, 2, 1].find? fun c => decide (pt.effFloor < c) && !(pt.queue c).isEmpty

/-- The draw that a step of a pass tries (R129): the class, the slot and the record of the head gather, its head member,
and the draw size. -/
structure Draw where
  cls : Nat
  slot : Nat
  gather : Gather
  member : Member
  cells : Nat
  deriving DecidableEq, Repr

/-- The draw to try at port `p`: the member at the head of the wait ring of the gather at the head of the queue of the
highest eligible class (R129). There is none where no eligible class has a queued gather; a queue that names no record
with a waiting member cannot arise (R123), and none is tried there (log 18). -/
def State.headDraw (p : Nat) (s : State) : Option Draw :=
  match (s.port p).topClass with
  | none => none
  | some c =>
    match ((s.port p).queue c).head? with
    | none => none
    | some k =>
      match s.gather? k with
      | none => none
      | some g =>
        match g.ring.head? with
        | none => none
        | some e =>
          match g.member? e with
          | none => none
          | some m => some ⟨c, k, g, m, m.drawSize (s.profileOf p)⟩

/-- The class queue after its head gather is served: moved to the tail while its wait ring is not empty, else removed
(R133). -/
def servedQueue (q : List Nat) (k : Nat) (ring : List Nat) : List Nat :=
  if ring.isEmpty then q.tail else q.tail ++ [k]

/-- The port after an issue: O grows by the cells, the blocked flag is cleared, and the served gather is placed (R132,
R133, R143). -/
def Port.issued (d : Draw) (pt : Port) : Port :=
  { pt.setQueue d.cls (servedQueue (pt.queue d.cls) d.slot d.gather.ring.tail) with
    outstanding := pt.outstanding + d.cells
    blocked := false }

/-- The entry that an issue appends to the Emission Queue (R132, R136). -/
def State.emissionOf (p : Nat) (d : Draw) (s : State) : Emission :=
  ⟨p, d.gather.tag, d.member.token, d.cells, d.slot, (s.slot d.slot).generation, d.member.entry⟩

/-- A draw is issued (R132, R133). -/
def State.issue (p : Nat) (d : Draw) (s : State) : State :=
  let e := s.emissionOf p d
  let s := (s.setPort p ((s.port p).issued d)).setGather d.slot (d.gather.issue d.cells d.member)
  let s := { s with emq := s.emq ++ [e] }
  (s.offer p .drawsIssued 1).offer p .drawCells d.cells

/-- A pass ends at a full Emission Queue: the port is blocked (R131). -/
def State.block (p : Nat) (s : State) : State := s.setPort p { s.port p with blocked := true }

/-- The steps of a pass, at most `n` of them. -/
def State.passSteps (p : Nat) : Nat → State → State
  | 0, s => s
  | n + 1, s =>
    match s.headDraw p with
    | none => s
    | some d =>
      if (s.port p).flight < (s.port p).outstanding + d.cells then s
      else if s.emq.length < Config.emissionPlaces then State.passSteps p n (s.issue p d)
      else s.block p

/-- A draw pass at port `p` (R128 to R134). Each step but the last fills a place of the Emission Queue, so a pass has at
most one step more than the queue has free places. -/
def State.drawPass (p : Nat) (s : State) : State :=
  s.passSteps p (Config.emissionPlaces - s.emq.length + 1)

/-- The pass of an event that called for one at port `p`, or none. -/
def State.passIf (call : Bool) (p : Nat) (s : State) : State := if call then s.drawPass p else s

/-! ## The Emission Arbiter -/

/-- The port numbers in round-robin order, beginning with the port after the pointer (R128, R142). -/
def roundRobin (pointer : Nat) : List Nat :=
  (List.range Config.ports).map fun i => (pointer + 1 + i) % Config.ports

/-- The waiting set: the ports whose blocked flag is set, in ascending order (R141, log 10). -/
def State.waitingSet (s : State) : List Nat := (List.range Config.ports).filter fun p => (s.port p).blocked

/-- Passes at the ports called for, one port at a time in round-robin order after the pointer (R128). -/
def State.passes (called : List Nat) (s : State) : State :=
  ((roundRobin s.pointer).filter fun p => decide (p ∈ called)).foldl (fun s p => s.drawPass p) s

/-- Port `p` leaves the waiting set with its flag cleared, and the pointer moves to it (R142, R144). -/
def State.handTo (p : Nat) (s : State) : State :=
  State.setPort p { s.port p with blocked := false } { s with pointer := p }

/-- The port that a freed place is handed to: the first blocked port in round-robin order after the pointer (R142). -/
def State.nextHanded (s : State) : Option Nat := (roundRobin s.pointer).find? fun p => (s.port p).blocked

/-- The handing of one freed place, and the passes of the event: the handed port's first, then the member's port's where
that port's pass is called for and is another (R138, R142). -/
def State.handPlace (p : Nat) (call : Bool) (s : State) : State :=
  match s.nextHanded with
  | none => s.passIf call p
  | some h => ((s.handTo h).drawPass h).passIf (call && decide (p ≠ h)) p

/-- One port served after a link reset: a blocked port is handed a place, and the port runs a pass (R144). -/
def State.serve (s : State) (p : Nat) : State :=
  (if (s.port p).blocked then s.handTo p else s).drawPass p

/-- The serving that follows the emptying of the Emission Queue: the ports called for and the blocked ports, once each, in
round-robin order after the pointer (R144). -/
def State.serveAll (called : List Nat) (s : State) : State :=
  ((roundRobin s.pointer).filter fun p => decide (p ∈ called) || (s.port p).blocked).foldl State.serve s

/-! ## The departure test -/

/-- The record and the member of a valid entry, none where the entry is stale (R137). -/
def State.validMember (e : Emission) (s : State) : Option (Gather × Member) :=
  match s.gather? e.slot with
  | none => none
  | some g =>
    if (s.slot e.slot).generation = e.generation ∧ g.stage = .active ∧ g.port = e.port ∧ g.tag = e.tag then
      match g.member? e.entry with
      | none => none
      | some m => if m.token = e.token ∧ m.drawQueued = e.cells then some (g, m) else none
    else none

/-- An entry may be taken: the link is UP, the credit is above 0 and the queue is not empty (R24). -/
def State.takeableEntry (s : State) : Option Emission :=
  if s.isUp && decide (0 < s.credit) then s.emq.head? else none

/-- A valid entry stands at the head and may depart (R24, R25, log 9). -/
def State.emissionReady (s : State) : Bool :=
  match s.takeableEntry with
  | none => false
  | some e => (s.validMember e).isSome

/-- An answer is waiting at the head of the Answer FIFO while the link is UP (R18). -/
def State.answerReady (s : State) : Bool := s.isUp && !s.answerFifo.isEmpty

/-! ## The link reset's walk (R28) -/

/-- One entry of the walk: a valid entry's cells are returned to its port, its member's draw-queued becomes 0 and the
member is re-evaluated; a stale entry is dropped. Beside the state stand the ports whose passes are called for. -/
def walkEntry (a : State × List Nat) (e : Emission) : State × List Nat :=
  match a.1.validMember e with
  | none => a
  | some (g, m) =>
    let pf := a.1.profileOf e.port
    let g' := (g.setMember (m.unqueued pf a.1.timebase)).reevaluate pf m.entry
    ((a.1.putGather e.slot g g').giveBack e.port e.cells, e.port :: a.2)

/-- The walk of the Emission Queue from head to tail, after which it is empty. -/
def State.walk (s : State) : State × List Nat :=
  let a := s.emq.foldl walkEntry (s, [])
  ({ a.1 with emq := [] }, a.2)

/-- The link reset (R27, R28, R144). -/
def State.linkReset (s : State) : State :=
  let a := s.walk
  State.raise .linkReset
    { a.1.serveAll a.2 with queryFifo := [], answerFifo := [], credit := 0, nextTx := .answer }

end Sys2Proof.Machine
end

