-- ==== Sys2Proof/Machine/Pressure.lean ====
section
/-! DEFINITION. The Port Pressure Units: occupancy reports (R99 to R103, R111, R112), dwell and stale expiries (R105, R108),
the effective floor (R114), and the pressure part of enabling and disabling a port (R98). -/

namespace Sys2Proof.Machine

/-! ## Modes and marks -/

/-- The level of a mode, 0 to 3 (R97). -/
def Mode.level : Mode → Nat
  | .calm => 0
  | .fill => 1
  | .crowd => 2
  | .surge => 3

/-- The mode one level lower (R105). -/
def Mode.lower : Mode → Mode
  | .calm => .calm
  | .fill => .calm
  | .crowd => .fill
  | .surge => .crowd

/-- M1e (R101). -/
def Profile.m1e (pf : Profile) : Nat := pf.m1.toNat

/-- M2e, the larger of M2 and M1e (R101). -/
def Profile.m2e (pf : Profile) : Nat := max pf.m2.toNat pf.m1e

/-- M3e, the larger of M3 and M2e (R101). -/
def Profile.m3e (pf : Profile) : Nat := max pf.m3.toNat pf.m2e

/-- The effective mark of a mode; CALM has none, and 0 stands there (R103). -/
def Profile.mark (pf : Profile) : Mode → Nat
  | .calm => 0
  | .fill => pf.m1e
  | .crowd => pf.m2e
  | .surge => pf.m3e

/-- The target of a report (R102). -/
def Profile.target (pf : Profile) (depth : Nat) : Mode :=
  if pf.m3e ≤ depth then .surge
  else if pf.m2e ≤ depth then .crowd
  else if pf.m1e ≤ depth then .fill
  else .calm

/-- The dwell time of a mode above CALM (R104, R150); CALM has none, and 0 stands there. -/
def Profile.dwellTime (pf : Profile) : Mode → Nat
  | .calm => 0
  | .fill => pf.dwellFill.toNat
  | .crowd => pf.dwellCrowd.toNat
  | .surge => pf.dwellSurge.toNat

/-- A dwell timer armed for a mode: absent in CALM (R104, R105). -/
def Profile.armDwell (pf : Profile) (now : Time) (m : Mode) : Timer :=
  if m = .calm then .absent else .armed (after now (pf.dwellTime m))

/-- The activity test: the depth is at or above the mode's effective mark less H, or 0 where H is at or above that mark
(R103). -/
def Profile.activity (pf : Profile) (m : Mode) (depth : Nat) : Bool :=
  decide (pf.mark m - pf.hysteresis.toNat ≤ depth)

/-! ## The effective floor -/

/-- The effective floor of an admin floor and a mode: the larger of the admin floor and the mode floor (R114). -/
def Profile.floor (pf : Profile) (admin : BitVec 3) (m : Mode) : Nat := max admin.toNat (pf.floors.get m).toNat

/-- The port with its effective floor recomputed (R114). -/
def Port.refloor (pf : Profile) (pt : Port) : Port := { pt with effFloor := pf.floor pt.adminFloor pt.mode }

/-- The event gives notice: F rose or the effective floor fell (R113). -/
def givesNotice (old new : Port) : Bool :=
  decide (old.flight < new.flight) || decide (new.effFloor < old.effFloor)

/-! ## Reports -/

/-- Step 1 of a report: the stale deadline re-armed, STALE cleared and the dwell timer resumed (R100). -/
def Port.freshen (pf : Profile) (now : Time) (pt : Port) : Port :=
  { pt with
    staleAt := armUnlessZero now pf.staleTime.toNat
    stale := false
    dwell := if pt.stale then pt.dwell.resume now else pt.dwell }

/-- Steps 2 and 3 of a report: the mode raised to the target above it with the dwell timer armed (R102), else the activity
test of a mode above CALM (R103). -/
def Port.climb (pf : Profile) (now : Time) (depth : Nat) (pt : Port) : Port :=
  if pt.mode.level < (pf.target depth).level then
    { pt with mode := pf.target depth, dwell := pf.armDwell now (pf.target depth) }
  else if pt.mode ≠ .calm ∧ pf.activity pt.mode depth then { pt with dwell := pf.armDwell now pt.mode }
  else pt

/-- The value that step 4 of a report gives F, before it is brought into its bounds (R111). -/
def Port.stepped (pf : Profile) (pt : Port) : Int :=
  match pt.mode with
  | .calm => if pt.flight < pt.outstanding + pf.quantum.toNat then pt.flight + pf.sUp.toNat else pt.flight
  | .fill => pt.flight
  | .crowd => pt.flight - pf.sDown.toNat
  | .surge => pf.fMin.toNat

/-- Steps 4 and 5 of a report: F stepped and brought into its bounds; in SURGE at-floor is latched at every report (R111,
R112). -/
def Port.stepFlight (pf : Profile) (pt : Port) : Port :=
  let pt' := pt.bring pf (pt.stepped pf)
  { pt' with atFloor := pt'.atFloor || decide (pt.mode = .surge) }

/-- A report at an enabled port, steps 1 to 6 of R99. -/
def Port.report (pf : Profile) (now : Time) (depth : Nat) (pt : Port) : Port :=
  Port.refloor pf (Port.stepFlight pf (Port.climb pf now depth (Port.freshen pf now pt)))

/-- The port enters SURGE from a lower mode (R116). -/
def entersSurge (old new : Port) : Bool := decide (old.mode ≠ .surge) && decide (new.mode = .surge)

/-- The port leaves SURGE (R116). -/
def leavesSurge (old new : Port) : Bool := decide (old.mode = .surge) && decide (new.mode ≠ .surge)

/-- SURGE entry at port `p`: the entry source acts, then SURGE_ENTRIES is offered, and PORT_SURGE is raised (R116,
R168). -/
def State.surgeEntry (p : Nat) (s : State) : State :=
  State.raise .portSurge ((s.mapMeters (Meter.surgeEntered p)).offer p .surgeEntries 1)

/-- SURGE exit at port `p`: the exit source acts (R116, R168). -/
def State.surgeExit (p : Nat) (s : State) : State := s.mapMeters (Meter.surgeExited p)

/-- The effects that a port's change from `old` to `new` makes beyond the port: SURGE entry or exit, and the pass of a
notice (R113, R116). -/
def State.applyPort (p : Nat) (old new : Port) (s : State) : State :=
  let s := s.setPort p new
  let s := if entersSurge old new then s.surgeEntry p else s
  let s := if leavesSurge old new then s.surgeExit p else s
  s.passIf (givesNotice old new) p

/-- REPORT: discarded for a port of 48 or above (R22), in RESETTING (R26) and on a disabled port; else an occupancy report
(R99). -/
def execReport (port : BitVec 8) (depth : BitVec 16) (s : State) : Host.Outcome State Fault Refusal :=
  let p := port.toNat
  let pt := s.port p
  .next
    (if s.isUp && decide (p < Config.ports) && pt.enabled then
      s.applyPort p pt (pt.report (s.profileOf p) s.timebase depth.toNat)
    else s)

/-! ## Expiries -/

/-- A port after its dwell expiry: the mode falls one level, the dwell timer is armed above CALM, and the effective floor is
recomputed (R105). -/
def Port.dwellFall (pf : Profile) (now : Time) (pt : Port) : Port :=
  Port.refloor pf { pt with mode := pt.mode.lower, dwell := pf.armDwell now pt.mode.lower }

/-- DWELL_EXPIRY: taken where the port's dwell deadline has been reached (R12, R105). -/
def execDwellExpiry (port : Nat) (s : State) : Host.Outcome State Fault Refusal :=
  let pt := s.port port
  .next
    (if decide (port < Config.ports) && pt.dwell.isDue s.timebase then
      s.applyPort port pt (pt.dwellFall (s.profileOf port) s.timebase)
    else s)

/-- A port after its stale expiry: STALE, without a stale deadline, its dwell timer suspended (R108). -/
def Port.goStale (now : Time) (pt : Port) : Port :=
  { pt with stale := true, staleAt := none, dwell := pt.dwell.suspend now }

/-- STALE_EXPIRY: taken where the port's stale deadline has been reached; REPORT_STALE is raised (R12, R108). -/
def execStaleExpiry (port : Nat) (s : State) : Host.Outcome State Fault Refusal :=
  let pt := s.port port
  .next
    (if decide (port < Config.ports) && due s.timebase pt.staleAt then
      (s.setPort port (pt.goStale s.timebase)).raise .reportStale
    else s)

/-! ## Enabling and disabling -/

/-- F_init brought into the range F_min to F_maxe, latching neither flag (R98). -/
def Profile.startFlight (pf : Profile) : Nat := min (max pf.fInit.toNat pf.fMin.toNat) pf.fMaxe

/-- A disabled port enabled: its pressure state is set afresh from the profile; its draw state, profile number and admin
floor stand (R98, R159). -/
def Port.enable (pf : Profile) (now : Time) (pt : Port) : Port :=
  Port.refloor pf
    { pt with
      enabled := true
      mode := .calm
      dwell := .absent
      stale := false
      staleAt := armUnlessZero now pf.staleTime.toNat
      flight := pf.startFlight
      atFloor := false
      atCeiling := false }

/-- An enabled port disabled: its timers are removed, STALE and the blocked flag are cleared; the mode, F, the flags and the
floors stand (R98, R145, R160). -/
def Port.disable (pt : Port) : Port :=
  { pt with enabled := false, dwell := .absent, staleAt := none, stale := false, blocked := false }

end Sys2Proof.Machine
end

