-- ==== Sys2Proof/Machine/Control.lean ====
section
/-! DEFINITION. The host's commands: a full-word write of COMMAND (R158 to R163, R167, R173). -/

namespace Sys2Proof.Machine

/-- A command is taken: COMMAND holds the word written, the command is carried out, and COMMAND_RESULT shows the advanced
sequence count, the code and the result (R173). -/
def State.finishCommand (code : BitVec 8) (port : BitVec 8) (tag : Tag) (result : Result) (s : State) : State :=
  { s with
    command := commandWord code port tag
    result := ⟨s.result.sequence + 1#8, code, result⟩ }

/-- The records of the slots `ks` go FREE in that order, each as RETIRE_GATHER frees it; beside the state stand the ports
whose passes their returns call for (R66, R67). -/
def State.retireAll (ks : List Nat) (s : State) : State × List Nat :=
  ks.foldl
    (fun a k =>
      match a.1.gather? k with
      | none => a
      | some g =>
        let r := a.1.retire k
        (r.1, if r.2 then g.port :: a.2 else a.2))
    (s, [])

/-- ENABLE_PORT at a port of 0 to 47 (R98, R159): a disabled port is enabled, with the SURGE exit source where it held
SURGE; an enabled port is unchanged. -/
def State.enableAt (p : Nat) (s : State) : State :=
  let pt := s.port p
  if pt.enabled then s
  else
    let new := pt.enable (s.profileOf p) s.timebase
    let s := s.setPort p new
    if leavesSurge pt new then s.surgeExit p else s

/-- ENABLE_PORT (R159). -/
def execEnablePort (port : BitVec 8) (tag : Tag) (s : State) : Host.Outcome State Fault Refusal :=
  .next
    (if port.toNat < Config.ports then (s.enableAt port.toNat).finishCommand 1#8 port tag .ok
    else s.finishCommand 1#8 port tag .portRange)

/-- The slots whose records have port `p`, in ascending order (R67). -/
def State.slotsOf (p : Nat) (s : State) : List Nat :=
  s.slots.keys.filter fun k =>
    match s.gather? k with
    | none => false
    | some g => decide (g.port = p)

/-- DISABLE_PORT at a port of 0 to 47 (R160): the records go FREE, the returns are applied and the port's one pass runs;
the port leaves the waiting set, its timers are removed, and it is disabled. A disabled port is unchanged. -/
def State.disableAt (p : Nat) (s : State) : State :=
  if (s.port p).enabled then
    let a := s.retireAll (s.slotsOf p)
    let s := a.1.passes a.2
    s.setPort p (s.port p).disable
  else s

/-- DISABLE_PORT (R160). -/
def execDisablePort (port : BitVec 8) (tag : Tag) (s : State) : Host.Outcome State Fault Refusal :=
  .next
    (if port.toNat < Config.ports then (s.disableAt port.toNat).finishCommand 2#8 port tag .ok
    else s.finishCommand 2#8 port tag .portRange)

/-- RETIRE_GATHER: the range check, then the lookup, then the retirement and its port's pass (R65, R158, R162). -/
def execRetireGather (port : BitVec 8) (tag : Tag) (s : State) : Host.Outcome State Fault Refusal :=
  .next
    (if port.toNat < Config.ports then
      match s.lookup port.toNat tag with
      | none => s.finishCommand 3#8 port tag .noGather
      | some k =>
        let r := s.retire k
        (r.1.passIf r.2 port.toNat).finishCommand 3#8 port tag .ok
    else s.finishCommand 3#8 port tag .portRange)

/-- PURGE_ALL: every record goes FREE in ascending slot order, then each port with a return runs its one pass (R66,
R163). -/
def execPurgeAll (port : BitVec 8) (tag : Tag) (s : State) : Host.Outcome State Fault Refusal :=
  let a := s.retireAll s.slots.keys
  .next ((a.1.passes a.2).finishCommand 4#8 port tag .ok)

/-- METERS_START (R167). -/
def execMetersStart (port : BitVec 8) (tag : Tag) (s : State) : Host.Outcome State Fault Refusal :=
  .next ((s.mapMeters Meter.started).finishCommand 5#8 port tag .ok)

/-- METERS_STOP (R167). -/
def execMetersStop (port : BitVec 8) (tag : Tag) (s : State) : Host.Outcome State Fault Refusal :=
  .next ((s.mapMeters Meter.stopped).finishCommand 6#8 port tag .ok)

/-- The code is outside 0x01 to 0x06 (R173). -/
def isBadCode (code : BitVec 8) : Bool := decide (code = 0#8) || decide (6#8 < code)

/-- BAD_COMMAND: taken as a command, and changes no state beyond COMMAND and COMMAND_RESULT (R173). A code of 0x01 to
0x06 is not this command (log 5). -/
def execBadCommand (code : BitVec 8) (port : BitVec 8) (tag : Tag) (s : State) : Host.Outcome State Fault Refusal :=
  .next (if isBadCode code then s.finishCommand code port tag .badCommand else s)

end Sys2Proof.Machine
end

