-- ==== Sys2Proof/Machine/Link.lean ====
section
/-! DEFINITION. The meanings of the link's own events: resets and framing, the arrival of queries and signals, answers and
emissions. -/

namespace Sys2Proof.Machine

/-- PART_RESET: every block returns to its part reset values (R10, R26, R43). The waiting commands and the count of free
values are the model's own and stay (log 8). -/
def execPartReset (s : State) : Host.Outcome State Fault Refusal :=
  .next { State.reset with pending := s.pending, freeIndex := s.freeIndex }

/-- LOSS_OF_FRAMING: while UP a link reset, and the link goes to RESETTING; while RESETTING nothing (R26). -/
def execLossOfFraming (s : State) : Host.Outcome State Fault Refusal :=
  .next (if s.isUp then { s.linkReset with link := .resetting } else s)

/-- FRAMING_ACQUIRED: the link becomes UP (R26). -/
def execFramingAcquired (s : State) : Host.Outcome State Fault Refusal := .next { s with link := .up }

/-- QUERY_ARRIVAL: the query is appended to the Query FIFO, or discarded with LINK_OVERRUN where it holds 64 (R16). In
RESETTING nothing is received (R26). -/
def execQueryArrival (words : List Word) (s : State) : Host.Outcome State Fault Refusal :=
  .next
    (if s.isUp && isQuery words then
      if s.queryFifo.length < Config.fifoDepth then { s with queryFifo := s.queryFifo ++ [words] }
      else s.raise .linkOverrun
    else s)

/-- UNDEFINED_SIGNAL: discarded on arrival with no effect (R14). -/
def execUndefinedSignal (_words : List Word) (s : State) : Host.Outcome State Fault Refusal := .next s

/-- EMIT_CREDIT: the count is added to the credit, the sum held at 1,023 (R23). In RESETTING nothing is received (R26). -/
def execEmitCredit (count : BitVec 8) (s : State) : Host.Outcome State Fault Refusal :=
  .next (if s.isUp then { s with credit := min (s.credit + count.toNat) Config.creditLimit } else s)

/-- LINK_RESET: the link reset, after which the link is UP (R26, R27). It is a framed message, so it arrives only while
UP. -/
def execLinkReset (s : State) : Host.Outcome State Fault Refusal := .next (if s.isUp then s.linkReset else s)

/-- ANSWER: the answer at the head of the Answer FIFO is sent, where one is waiting and the transmitter's turn allows it
(R18, R25). -/
def execAnswer (s : State) : Host.Outcome State Fault Refusal :=
  .next
    (match s.answerFifo with
    | [] => s
    | a :: rest =>
      if s.isUp && (decide (s.nextTx = .answer) || !s.emissionReady) then
        { s with answerFifo := rest, lklTx := a.words, nextTx := .emission }
      else s)

/-- The departure of a valid entry (R138): the entry leaves the head, the emission is sent and takes one credit, the
departure is applied to the member (R91), and the freed place is handed (R142). -/
def State.depart (e : Emission) (g : Gather) (m : Member) (s : State) : State :=
  let pf := s.profileOf e.port
  let g' := (g.setMember (m.departed pf s.timebase)).reevaluate pf m.entry
  let s := { s with emq := s.emq.tail, credit := s.credit - 1, lklTx := e.words, nextTx := .answer }
  (s.putGather e.slot g g').handPlace e.port (appends g g')

/-- DRAW_EMISSION: a valid head entry departs where an entry may be taken and the transmitter's choice falls on an
emission (R24, R25, R138). -/
def execDrawEmission (s : State) : Host.Outcome State Fault Refusal :=
  .next
    (match s.takeableEntry with
    | none => s
    | some e =>
      match s.validMember e with
      | none => s
      | some (g, m) => if decide (s.nextTx = .emission) || !s.answerReady then s.depart e g m else s)

/-- STALE_DISCARD: a stale head entry is discarded, whatever the transmitter's choice, and the freed place is handed
(R25, R139, R142). -/
def execStaleDiscard (s : State) : Host.Outcome State Fault Refusal :=
  .next
    (match s.takeableEntry with
    | none => s
    | some e =>
      match s.validMember e with
      | none => State.handPlace 0 false { s with emq := s.emq.tail }
      | some _ => s)

end Sys2Proof.Machine
end

