-- ==== Sys2Proof/Machine/Management.lean ====
section
/-! DEFINITION. The Management Port's tables and registers: reads and writes of TABLE_WINDOW through TABLE_SELECT (R174,
R175), the profile, port, window and meter words (R34, R115, R118, R154, R157, R166, R170), and the attention and pool-low
registers (R172, R176 to R178). -/

namespace Sys2Proof.Machine

/-! ## Reading a table word (R42, R74, R118, R148, R174, R175) -/

/-- A deadline as it is read: 0 when absent (R42, R74). -/
def deadlineWord : Option Time → Word
  | none => 0#32
  | some d => d

/-- The pending-class set as it is read, class k at bit k − 1 of seven (R175). -/
def Port.pendingBits (pt : Port) : BitVec 7 :=
  pt.pendingClasses.foldl (fun w c => w ||| (1#7 <<< (c - 1))) 0#7

/-- PORT words 0 to 3 as they are read. -/
def Port.word (pt : Port) (i : Nat) : Word :=
  match i with
  | 0 => placeBit 31 pt.enabled ||| place 0 pt.profile
  | 1 => place 0 pt.adminFloor
  | 2 => placeNat 16 14 pt.flight ||| placeNat 8 3 pt.effFloor ||| placeBit 4 pt.atCeiling ||| placeBit 3 pt.atFloor
      ||| placeBit 2 pt.stale ||| place 0 pt.mode.code
  | 3 => placeBit 31 pt.blocked ||| place 17 pt.pendingBits ||| placeNat 0 16 pt.outstanding
  | _ => 0#32

/-- The state code of a record that is not FREE (R175). -/
def Stage.code : Stage → BitVec 2
  | .active => 1#2
  | .linger _ => 2#2

/-- The outcome field: 0 when absent (R42, R175). -/
def Stage.outcomeCode : Stage → BitVec 3
  | .active => 0#3
  | .linger o => o.code.setWidth 3

/-- GATHER words 1 to 5 and word 0 less its generation, of a record that is not FREE. -/
def Gather.word (g : Gather) (i : Nat) : Word :=
  match i with
  | 0 => placeNat 12 3 g.cls ||| place 8 g.stage.outcomeCode ||| placeBit 4 g.suspended ||| place 0 g.stage.code
  | 1 => placeNat 16 8 g.port ||| place 0 g.tag
  | 2 => placeNat 24 8 g.allowance ||| placeNat 15 9 g.roster.length ||| placeNat 0 12 g.announced
  | 3 => deadlineWord g.idle
  | 4 => deadlineWord g.lifetime
  | 5 => deadlineWord g.lingerAt
  | _ => 0#32

/-- GATHER words 0 to 5 as they are read: a FREE slot reads as its generation and zeros (R42). -/
def Slot.word (x : Slot) (i : Nat) : Word :=
  (if i = 0 then place 16 x.generation else 0#32) |||
    (match x.body with
      | none => 0#32
      | some g => g.word i)

/-- ROSTER words 0 to 4 as they are read. -/
def Member.word (m : Member) (i : Nat) : Word :=
  match i with
  | 0 => placeBit 31 m.announced ||| place 24 m.phase.code ||| place 0 m.token
  | 1 => placeNat 24 8 m.trims ||| placeNat 16 8 m.openLeft ||| placeNat 0 16 (m.expected.getD 0)
  | 2 => placeNat 16 9 m.drawOut ||| placeNat 12 3 m.lapses ||| placeNat 0 8 m.drawQueued
  | 3 => placeNat 0 24 m.passed
  | 4 => deadlineWord m.drawDeadline
  | _ => 0#32

/-- The member at a roster position of a slot; none at or beyond the roster's size and in a FREE slot (R74). -/
def State.memberAt (k position : Nat) (s : State) : Option Member :=
  match s.gather? k with
  | none => none
  | some g => g.roster[position]?

/-- A table word as it is read; 0 where TABLE_SELECT names none (R174). -/
def State.tableWord (t : Target) (s : State) : Word :=
  match t with
  | .profile n w => (s.profileAt n).word w
  | .port p w => (s.port p).word w
  | .gather k w => (s.slot k).word w
  | .roster k position w =>
    match s.memberAt k position with
    | none => 0#32
    | some m => m.word w
  | .exempt i w => (s.window i).word w
  | .meter i w => (s.meter i).word w
  | .absent => 0#32

/-- An access of TABLE_WINDOW advances the word field (R174). -/
def State.advance (s : State) : State := { s with select := s.select.advance }

/-- A read of the selected word: its value goes to the host and the word field advances (R174). -/
def State.readWindow (s : State) : State :=
  State.advance { s with readData := s.tableWord s.select.target }

/-- TABLE_WINDOW_READ: a read with no behaviour of its own. Where the selected word is a PORT status word the read is
PORT_STATUS_READ, and this event cannot occur (log 5). -/
def execTableWindowRead (s : State) : Host.Outcome State Fault Refusal :=
  .next
    (match s.select.target with
    | .port _ 2 => s
    | _ => s.readWindow)

/-- PORT_STATUS_READ: the status word is shown and both flags are then cleared (R118). -/
def execPortStatusRead (s : State) : Host.Outcome State Fault Refusal :=
  .next
    (match s.select.target with
    | .port p 2 => s.readWindow.setPort p { s.port p with atFloor := false, atCeiling := false }
    | _ => s)

/-! ## Writing a table word -/

/-- A port of a written profile: where it is enabled and names profile `n`, F is brought into the bounds; beside the state
stand the ports whose F rose (R154). -/
def clampPort (n : Nat) (a : State × List Nat) (p : Nat) : State × List Nat :=
  let pt := a.1.port p
  if pt.enabled ∧ pt.profile.toNat = n then
    let new := pt.bring (a.1.profileAt n) pt.flight
    (a.1.setPort p new, if pt.flight < new.flight then p :: a.2 else a.2)
  else a

/-- The clamp of a write of F_min or F_max, and the passes of the ports whose F rose (R154). -/
def State.clampPorts (n : Nat) (s : State) : State :=
  let a := (List.range Config.ports).foldl (clampPort n) (s, [])
  a.1.passes a.2

/-- PROFILE_WRITE: the fields of the word are stored, and a write of word 4 clamps the enabled ports that use the profile
(R154, R175 note 2). -/
def execProfileWrite (value : Word) (s : State) : Host.Outcome State Fault Refusal :=
  .next
    (match s.select.target with
    | .profile n w =>
      let s := State.advance
        { s with profiles := Table.set Profile.reset s.profiles n ((s.profileAt n).store w value) }
      if w = 4 then s.clampPorts n else s
    | _ => s)

/-- A port given a profile number: on an enabled port F is brought into the new profile's bounds (R157). -/
def Port.setProfile (n : BitVec 3) (pf : Profile) (pt : Port) : Port :=
  let pt' := { pt with profile := n }
  if pt.enabled then pt'.bring pf pt.flight else pt'

/-- PROFILE_NUMBER_WRITE: a write of PORT word 0 (R157); its enable state bit is read-only (R156). -/
def execProfileNumberWrite (value : Word) (s : State) : Host.Outcome State Fault Refusal :=
  .next
    (match s.select.target with
    | .port p 0 =>
      let pt := s.port p
      let n : BitVec 3 := field value 0 3
      let new := pt.setProfile n (s.profileAt n.toNat)
      (s.advance.setPort p new).passIf (pt.enabled && givesNotice pt new) p
    | _ => s)

/-- ADMIN_FLOOR_WRITE: a write of PORT word 1; the effective floor is recomputed, with notice on an enabled port (R115). -/
def execAdminFloorWrite (value : Word) (s : State) : Host.Outcome State Fault Refusal :=
  .next
    (match s.select.target with
    | .port p 1 =>
      let pt := s.port p
      let new := Port.refloor (s.profileOf p) { pt with adminFloor := field value 0 3 }
      (s.advance.setPort p new).passIf (pt.enabled && givesNotice pt new) p
    | _ => s)

/-- EXEMPT_WRITE: the fields of the word are stored as written (R31, R34). -/
def execExemptWrite (value : Word) (s : State) : Host.Outcome State Fault Refusal :=
  .next
    (match s.select.target with
    | .exempt i w =>
      State.advance { s with windows := Table.set Window.reset s.windows i ((s.window i).store w value) }
    | _ => s)

/-- The state with meter `i` replaced. -/
def State.setMeter (i : Nat) (m : Meter) (s : State) : State :=
  { s with meters := Table.set Meter.reset s.meters i m }

/-- METER_CONFIG_WRITE: a write of METER word 0 (R166). -/
def execMeterConfigWrite (value : Word) (s : State) : Host.Outcome State Fault Refusal :=
  .next
    (match s.select.target with
    | .meter i 0 => s.advance.setMeter i ((s.meter i).configure value)
    | _ => s)

/-- METER_COUNT_WRITE: a write of METER word 1, the low word, or word 2, the high word (R170). -/
def execMeterCountWrite (value : Word) (s : State) : Host.Outcome State Fault Refusal :=
  .next
    (match s.select.target with
    | .meter i 1 => s.advance.setMeter i ((s.meter i).load false value)
    | .meter i 2 => s.advance.setMeter i ((s.meter i).load true value)
    | _ => s)

/-- METER_FLAG_CLEAR: a write of METER word 5; a one at the flag's bit clears the overflow flag, a zero leaves it
(R170). -/
def execMeterFlagClear (value : Word) (s : State) : Host.Outcome State Fault Refusal :=
  .next
    (match s.select.target with
    | .meter i 5 =>
      let m := s.meter i
      s.advance.setMeter i { m with overflowed := m.overflowed && !bit value 0 }
    | _ => s)

/-! ## Registers -/

/-- ATTN_SUMMARY_WRITE: a one clears its source bit (R176). -/
def execAttnSummaryWrite (value : Word) (s : State) : Host.Outcome State Fault Refusal :=
  .next { s with attn := s.attn &&& ~~~field value 0 7 }

/-- ATTN_ENABLE_WRITE (R177). -/
def execAttnEnableWrite (value : Word) (s : State) : Host.Outcome State Fault Refusal :=
  .next { s with attnEnable := field value 0 7 }

/-- POOL_LOW_MARK_WRITE: a value above 65,536 is stored as 65,536 (R178). -/
def execPoolLowMarkWrite (value : Word) (s : State) : Host.Outcome State Fault Refusal :=
  .next { s with poolLowMark := min (field value 0 17).toNat Config.poolEntries }

/-- A write of the table word has a row of its own in the opcode table (R174, R175). -/
def Target.written (t : Target) (value : Word) : Bool :=
  match t with
  | .profile _ _ => true
  | .port _ w => decide (w ≤ 1)
  | .gather _ _ => false
  | .roster _ _ _ => false
  | .exempt _ _ => true
  | .meter _ w => decide (w ≤ 2) || (decide (w = 5) && bit value 0)
  | .absent => false

/-- REGISTER_WRITE. A write of fewer than four bytes is ignored (R172). A write of TABLE_SELECT is stored (R174). A write
of TABLE_WINDOW whose selected word has no row of its own is ignored, and the word field advances (R174). Writes of IDENT,
COMMAND_RESULT and words 8 to 15 are ignored (R172). The other registers' whole-word writes have rows of their own, and
this event is none of them (log 5). -/
def execRegisterWrite (index lanes : BitVec 4) (value : Word) (s : State) : Host.Outcome State Fault Refusal :=
  .next
    (if lanes = 0xF#4 then
      if index = 3#4 then { s with select := TableSelect.ofWord value }
      else if index = 4#4 ∧ !s.select.target.written value then s.advance
      else s
    else s)

/-! ## Which command a host access is -/

/-- A register of the window as it is read, TABLE_WINDOW excepted (R172, log 15). -/
def State.readRegister (index : BitVec 4) (s : State) : Word :=
  match index.toNat with
  | 0 => Config.ident
  | 1 => s.command
  | 2 => s.result.word
  | 3 => s.select.toWord
  | 5 => place 0 s.attn
  | 6 => place 0 s.attnEnable
  | 7 => placeNat 0 17 s.poolLowMark
  | _ => 0#32

/-- The command that a word written to COMMAND spells (R173). -/
def commandOf (value : Word) : Instr :=
  let port : BitVec 8 := field value 16 8
  let tag : Tag := field value 0 16
  match (field value 24 8).toNat with
  | 1 => .enablePort port tag
  | 2 => .disablePort port tag
  | 3 => .retireGather port tag
  | 4 => .purgeAll port tag
  | 5 => .metersStart port tag
  | 6 => .metersStop port tag
  | _ => .badCommand (field value 24 8) port tag

/-- The command that a full-word write of TABLE_WINDOW is, by the word selected (R174, R175 note 2). -/
def windowWrite (t : Target) (value : Word) : Instr :=
  match t with
  | .profile _ _ => .profileWrite value
  | .port _ 0 => .profileNumberWrite value
  | .port _ 1 => .adminFloorWrite value
  | .exempt _ _ => .exemptWrite value
  | .meter _ 0 => .meterConfigWrite value
  | .meter _ 1 => .meterCountWrite value
  | .meter _ 2 => .meterCountWrite value
  | .meter _ 5 => if bit value 0 then .meterFlagClear value else .registerWrite 4#4 0xF#4 value
  | _ => .registerWrite 4#4 0xF#4 value

/-- The command that a host write is: the window's word, the bytes covered, and the value (R172 to R178). -/
def hostWrite (index lanes : BitVec 4) (value : Word) (s : State) : Instr :=
  if lanes = 0xF#4 then
    match index.toNat with
    | 1 => commandOf value
    | 4 => windowWrite s.select.target value
    | 5 => .attnSummaryWrite value
    | 6 => .attnEnableWrite value
    | 7 => .poolLowMarkWrite value
    | _ => .registerWrite index lanes value
  else .registerWrite index lanes value

/-- The command that a host read of TABLE_WINDOW is; a read of fewer bytes is a read of the whole word (R172, R174). -/
def hostRead (s : State) : Instr :=
  match s.select.target with
  | .port _ 2 => .portStatusRead
  | _ => .tableWindowRead

end Sys2Proof.Machine
end

