-- ==== Sys2Proof/Machine/Queries.lean ====
section
/-! DEFINITION. The meanings of the queries: OPEN, EXTEND, RECLASS, CLOSE, ARRIVE and UNDEFINED_QUERY. Each is one event:
the query is taken from the Query FIFO head, checked, carried out and answered (R17 to R21). -/

namespace Sys2Proof.Machine

/-- A query of the kinds `isKind` is taken from the head of the Query FIFO where one may be taken (R17): the checks 1 to 3
are made against it (R19), and a query that passes them is carried out by `owner`. Where the head is no such query, or
none may be taken, nothing happens (log 5). -/
def State.takeQuery (isKind : BitVec 4 → Bool) (owner : List Word → State → State) (s : State) : State :=
  match s.takeable with
  | none => s
  | some q =>
    if isKind (kindOf q) then
      match s.linkFault q with
      | some (status, parameter) => s.popQuery.fault q status parameter
      | none => owner q s.popQuery
    else s

/-! ## OPEN and EXTEND -/

/-- The adding of listed entries: the state, whether a draw pass is called for, and how many entries were added. -/
structure Adding where
  state : State
  call : Bool
  accepted : Nat

/-- One listed entry of an OPEN or EXTEND for the record of slot `k` (R51, R55): ignored where its token is on the roster;
added where the roster and the pool have room; else not added. -/
def addListed (k : Nat) (a : Adding) (x : Token × Nat) : Adding :=
  match a.state.gather? k with
  | none => a
  | some g =>
    if (g.byToken x.1).isSome then a
    else if g.roster.length < Config.rosterLimit then
      match a.state.take with
      | (none, s) => { a with state := s }
      | (some e, s) =>
        let g' := g.addMember (s.profileOf g.port) e x.1 true (if x.2 = 0 then none else some x.2)
        ⟨s.putGather k g g', a.call || appends g g', a.accepted + 1⟩
    else if Config.listingTriesFullRoster && decide (freeCount a.state.free = 0) then
      { a with state := a.state.refuseTake }
    else a

/-- The listed entries in list order (R51). -/
def State.addAll (k : Nat) (listed : List (Token × Nat)) (s : State) : Adding :=
  listed.foldl (addListed k) ⟨s, false, 0⟩

/-- The class an OPEN stores: its class field, or the profile's default class where that is 0 (R6, R50). -/
def openClass (pf : Profile) (field : Nat) : Nat := if field = 0 then pf.defaultClass.toNat else field

/-- The record that an OPEN sets, before its listed entries are added (R50, R52). -/
def State.newGather (q : List Word) (s : State) : Gather :=
  let p := portOf q
  let pf := s.profileOf p
  { port := p
    tag := tagOf q
    cls := openClass pf (classOf q)
    suspended := false
    allowance := openingAllowance pf (s.port p).flight (s.port p).mode (announcedOf q) (entryCountOf q)
    announced := announcedOf q
    roster := []
    ring := []
    stage := .active
    idle := armUnlessZero s.timebase pf.idleTime.toNat
    lifetime := armUnlessZero s.timebase (pf.maxLifetime.toNat * 1000)
    lingerAt := none }

/-- An OPEN that passes its checks takes slot `k` (R50 to R53). -/
def State.openAt (q : List Word) (k : Nat) (s : State) : State :=
  let g := s.newGather q
  let a := (s.setGather k g).addAll k (listedOf q)
  let s := (a.state.offer (portOf q) .gathersOpened 1).passIf a.call (portOf q)
  s.answerGrant q k g.allowance a.accepted g.cls

/-- An OPEN for a key of which no record stands in the index: it takes the lowest FREE slot, or is refused NO_ROOM (R19,
R49, R50). -/
def State.openFresh (q : List Word) (s : State) : State :=
  match s.lowestFree with
  | none =>
    State.fault q .noRoom 0#16 ((s.offer (portOf q) .opensRefused 1).raise .openRefused)
  | some k => s.openAt q k

/-- OPEN at the Gather Table (R49). -/
def State.openGather (q : List Word) (s : State) : State :=
  match s.lookupGather (portOf q) (tagOf q) with
  | none => s.openFresh q
  | some (k, g) =>
    match g.stage with
    | .active => s.fault q .duplicateTag (BitVec.ofNat 16 k)
    | .linger _ => (s.freeSlot k g).openFresh q

/-- The announced count after an EXTEND: unchanged by 0, and never falling (R55). -/
def extendedCount (n count : Nat) : Nat := if count = 0 then n else max n count

/-- EXTEND on an ACTIVE record (R55). -/
def State.extendAt (q : List Word) (k : Nat) (g : Gather) (s : State) : State :=
  let g' := ({ g with announced := extendedCount g.announced (announcedOf q) }).rearmIdle
    (s.profileOf g.port) s.timebase
  let a := (s.setGather k g').addAll k (listedOf q)
  (a.state.passIf a.call g.port).answerGrant q k g.allowance a.accepted g.cls

/-- EXTEND at the Gather Table (R19, R55). -/
def State.extendGather (q : List Word) (s : State) : State :=
  match s.lookupGather (portOf q) (tagOf q) with
  | none => s.fault q .noGather 0#16
  | some (k, g) =>
    match g.stage with
    | .linger o => s.fault q .gatherClosed o.code
    | .active => s.extendAt q k g

/-! ## RECLASS and CLOSE -/

/-- The record after a RECLASS with class field `v`: suspended by 0 (R56), else of class `v` with any suspension lifted
(R57). -/
def Gather.reclass (v : Nat) (g : Gather) : Gather :=
  if v = 0 then { g with suspended := true } else { g with suspended := false, cls := v }

/-- RECLASS on an ACTIVE record (R56, R57). -/
def State.reclassAt (q : List Word) (k : Nat) (g : Gather) (s : State) : State :=
  let g' := (g.reclass (classOf q)).rearmIdle (s.profileOf g.port) s.timebase
  ((s.putGather k g g').passIf (appends g g') g.port).answerSlot q k

/-- RECLASS at the Gather Table (R19, R56, R57). -/
def State.reclassGather (q : List Word) (s : State) : State :=
  match s.lookupGather (portOf q) (tagOf q) with
  | none => s.fault q .noGather 0#16
  | some (k, g) =>
    match g.stage with
    | .linger o => s.fault q .gatherClosed o.code
    | .active => s.reclassAt q k g

/-- CLOSE on an ACTIVE record (R58). -/
def State.closeAt (q : List Word) (k : Nat) (g : Gather) (s : State) : State :=
  let r := s.endGather k g .closed
  (r.1.passIf r.2 g.port).answerSlot q k

/-- CLOSE at the Gather Table (R58). -/
def State.closeGather (q : List Word) (s : State) : State :=
  match s.lookupGather (portOf q) (tagOf q) with
  | none => s.fault q .noGather 0#16
  | some (k, g) =>
    match g.stage with
    | .linger _ => s.answerSlot q k
    | .active => s.closeAt q k g

/-! ## ARRIVE -/

/-- A window matches an arrival's port and token (R32). -/
def Window.matches (x : Window) (p : Nat) (t : Token) : Bool :=
  x.enabled && (x.scopeAny || decide (x.scopePort.toNat = p)) && decide (t &&& x.mask = x.base &&& x.mask)

/-- The lowest-numbered window that matches (R32). -/
def State.matchingWindow (p : Nat) (t : Token) (s : State) : Option Nat :=
  (List.range Config.windows).find? fun i => (s.window i).matches p t

/-- The cell event of a verdict (R41, R79). -/
def Verdict.event : Verdict → MeterEvent
  | .pass => .cellsPassed
  | .mark => .cellsMarked
  | .trim => .cellsTrimmed

/-- The stray verdict of the port's profile for the port's mode (R39, R40). -/
def State.strayVerdict (p : Nat) (s : State) : Verdict := (s.profileOf p).stray.get (s.port p).mode

/-- The straggler verdict of the port's profile for the port's mode (R38, R40). -/
def State.stragglerVerdict (p : Nat) (s : State) : Verdict := (s.profileOf p).straggler.get (s.port p).mode

/-- An arrival answered from a verdict table: ARRIVALS_STRAY and its cells are counted (R38, R39, R41). -/
def State.answerTable (q : List Word) (v : Verdict) (b : Basis) (parameter : Nat) (s : State) : State :=
  ((s.offer (portOf q) .arrivalsStray 1).offer (portOf q) v.event (cellsOf (bytesOf q))).answerVerdict q v b parameter

/-- A stray arrival (R39). -/
def State.arriveStray (q : List Word) (s : State) : State :=
  s.answerTable q (s.strayVerdict (portOf q)) .stray 0

/-- An arrival for a LINGER record (R38). -/
def State.arriveStraggler (q : List Word) (k : Nat) (s : State) : State :=
  s.answerTable q (s.stragglerVerdict (portOf q)) .straggler k

/-- An exempt arrival (R33). -/
def State.arriveExempt (q : List Word) (i : Nat) (s : State) : State :=
  (s.offer (portOf q) .arrivalsExempt 1).answerVerdict q .pass .exempt i

/-- An arrival of a member of the ACTIVE record of slot `k`, found or joined: steps 2 to 9 of R85. `call` says whether the
join has already called for a draw pass. -/
def State.arriveMember (q : List Word) (k : Nat) (g : Gather) (m : Member) (call : Bool) (s : State) : State :=
  let p := g.port
  let pf := s.profileOf p
  let h := g.handle pf s.timebase (s.port p).mode (cellsOf (bytesOf q)) (lastOf q) m
  let g' := h.gather.rearmIdle pf s.timebase
  let s := (s.putGather k g g').giveBack p h.returned
  let r := if h.finished && g'.isComplete then s.endGather k g' .complete else (s, false)
  let s := r.1.offer p h.verdict.event (cellsOf (bytesOf q))
  let s := s.passIf (call || appends g g' || decide (0 < h.returned) || r.2) p
  s.answerVerdict q h.verdict .roster k

/-- An arrival that is not joined: the record's idle deadline is re-armed and the arrival is answered as a stray (R39,
R76). -/
def State.arriveUnjoined (q : List Word) (k : Nat) (g : Gather) (s : State) : State :=
  (s.setGather k (g.rearmIdle (s.profileOf g.port) s.timebase)).arriveStray q

/-- An arrival for the ACTIVE record of slot `k`: its token is found on the roster, joined (R75) or refused (R76). The
joined token is on the roster it joined, so the case without a member cannot arise. -/
def State.arriveRoster (q : List Word) (k : Nat) (g : Gather) (s : State) : State :=
  match g.byToken (tokenOf q) with
  | some m => s.arriveMember q k g m false
  | none =>
    if g.roster.length < Config.rosterLimit then
      match s.take with
      | (none, s) => s.arriveUnjoined q k g
      | (some e, s) =>
        let g' := g.addMember (s.profileOf g.port) e (tokenOf q) false none
        match g'.byToken (tokenOf q) with
        | none => s
        | some m => (s.putGather k g g').arriveMember q k g' m (appends g g')
    else
      (if freeCount s.free = 0 then s.refuseTake else s).arriveUnjoined q k g

/-- The classification of one ARRIVE (R30). -/
def State.classify (q : List Word) (s : State) : State :=
  match s.matchingWindow (portOf q) (tokenOf q) with
  | some i => s.arriveExempt q i
  | none =>
    match s.lookupGather (portOf q) (tagOf q) with
    | none => s.arriveStray q
    | some (k, g) =>
      match g.stage with
      | .linger _ => s.arriveStraggler q k
      | .active => s.arriveRoster q k g

/-! ## The meanings -/

/-- OPEN (R50). -/
def execOpenQuery (s : State) : Host.Outcome State Fault Refusal :=
  .next (s.takeQuery (fun k => decide (k = 1#4)) State.openGather)

/-- EXTEND (R55). -/
def execExtendQuery (s : State) : Host.Outcome State Fault Refusal :=
  .next (s.takeQuery (fun k => decide (k = 2#4)) State.extendGather)

/-- RECLASS (R56, R57). -/
def execReclassQuery (s : State) : Host.Outcome State Fault Refusal :=
  .next (s.takeQuery (fun k => decide (k = 3#4)) State.reclassGather)

/-- CLOSE (R58). -/
def execCloseQuery (s : State) : Host.Outcome State Fault Refusal :=
  .next (s.takeQuery (fun k => decide (k = 4#4)) State.closeGather)

/-- ARRIVE (R30). -/
def execArriveQuery (s : State) : Host.Outcome State Fault Refusal :=
  .next (s.takeQuery (fun k => decide (k = 5#4)) State.classify)

/-- A code of the query space that names no query kind: 0x0, 0x6 or 0x7 (R14). -/
def isUndefinedKind (k : BitVec 4) : Bool := decide (k = 0#4) || decide (k = 6#4) || decide (k = 7#4)

/-- UNDEFINED_QUERY: no length is legal for its kind, so the check FORMAT answers it (R14, R15, R19). -/
def execUndefinedQuery (s : State) : Host.Outcome State Fault Refusal :=
  .next (s.takeQuery isUndefinedKind fun _ s => s)

end Sys2Proof.Machine
end

