-- ==== Sys2Proof/Machine/Timers.lean ====
section
/-! DEFINITION. The timebase and the expiries of draw and gather deadlines (R10, R12, R47, R62, R63, R93). An expiry is taken
where its deadline has been reached; where it has not, the event cannot occur and nothing happens (log 5). The timebase does
not leave the 1 µs within which an expiry is taken (R12, log 7). -/

namespace Sys2Proof.Machine

/-- The deadlines of a port: its dwell deadline, where the timer is not suspended, and its stale deadline (R97). -/
def Port.deadlines (pt : Port) : List Time :=
  (match pt.dwell with
    | .absent => []
    | .armed d => [d]
    | .suspended _ => []) ++ pt.staleAt.toList

/-- The deadlines of a record: idle, lifetime and its members' draw deadlines while it is ACTIVE, else its linger deadline
(R42, R45, R72). -/
def Gather.deadlines (g : Gather) : List Time :=
  match g.stage with
  | .active => g.idle.toList ++ g.lifetime.toList ++ g.roster.filterMap Member.drawDeadline
  | .linger _ => g.lingerAt.toList

/-- The deadlines in the part whose expiries are still to be taken: those of its ports and of its records. -/
def State.deadlines (s : State) : List Time :=
  ((List.range Config.ports).flatMap fun p => (s.port p).deadlines) ++
    s.slots.keys.flatMap fun k => match s.gather? k with
      | none => []
      | some g => g.deadlines

/-- The deadline was reached 1 µs ago or more: its expiry is to be taken before the timebase advances (R12). -/
def pressing (now deadline : Time) : Bool := reached now deadline && decide (deadline ≠ now)

/-- TIMEBASE_ADVANCE: the timebase advances by one, wrapping to 0 (R10). A block takes an expiry at the point of its deadline
or 1 µs after it (R12), so while an expiry is still to be taken 1 µs after its deadline this event cannot occur (log 5,
log 7). -/
def execTimebaseAdvance (s : State) : Host.Outcome State Fault Refusal :=
  .next (if s.deadlines.any (pressing s.timebase) then s else { s with timebase := s.timebase + 1#32 })

/-- A member's draw is reclaimed (R93): the draw-out is returned, lapses grows and DRAWS_RECLAIMED is offered; at the lapse
limit the member lapses and the completion test is made (R94), else it is re-evaluated. -/
def State.reclaim (k : Nat) (g : Gather) (m : Member) (s : State) : State :=
  let p := g.port
  let pf := s.profileOf p
  let m' := m.reclaimed
  let lapsed := decide (pf.lapses ≤ m'.lapses)
  let g' := if lapsed then g.lapseMember m' else (g.setMember m').reevaluate pf m.entry
  let s := ((s.putGather k g g').giveBack p m.drawOut).offer p .drawsReclaimed 1
  let r := if lapsed && g'.isComplete then s.endGather k g' .complete else (s, false)
  r.1.passIf (appends g g' || decide (0 < m.drawOut) || r.2) p

/-- DRAW_DEADLINE_EXPIRY of the member at a roster position of slot `slot` (R93). -/
def execDrawDeadlineExpiry (slot position : Nat) (s : State) : Host.Outcome State Fault Refusal :=
  .next
    (match s.gather? slot with
    | none => s
    | some g =>
      match g.roster[position]? with
      | none => s
      | some m =>
        if decide (g.stage = .active) && due s.timebase m.drawDeadline then s.reclaim slot g m else s)

/-- An ACTIVE record ended by a gather deadline, and the pass that its return calls for (R62, R63). -/
def State.expireGather (k : Nat) (g : Gather) (outcome : Ending) (s : State) : State :=
  let r := s.endGather k g outcome
  r.1.passIf r.2 g.port

/-- IDLE_EXPIRY: the gather ends IDLE (R62). -/
def execIdleExpiry (slot : Nat) (s : State) : Host.Outcome State Fault Refusal :=
  .next
    (match s.gather? slot with
    | none => s
    | some g =>
      if decide (g.stage = .active) && due s.timebase g.idle then s.expireGather slot g .idle else s)

/-- LIFETIME_EXPIRY: the gather ends OVERDUE (R63). -/
def execLifetimeExpiry (slot : Nat) (s : State) : Host.Outcome State Fault Refusal :=
  .next
    (match s.gather? slot with
    | none => s
    | some g =>
      if decide (g.stage = .active) && due s.timebase g.lifetime then s.expireGather slot g .overdue else s)

/-- LINGER_EXPIRY: the lingering record goes FREE (R47, R48). -/
def execLingerExpiry (slot : Nat) (s : State) : Host.Outcome State Fault Refusal :=
  .next
    (match s.gather? slot with
    | none => s
    | some g =>
      if decide (g.stage ≠ .active) && due s.timebase g.lingerAt then s.freeSlot slot g else s)

end Sys2Proof.Machine
end

