-- ==== Sys2Proof/Machine/Dispatch.lean ====
section
/-! DEFINITION. The dispatch: one arm per command, each one direct call of its meaning. -/

namespace Sys2Proof.Machine

/-- A command's effect on everything but the queue of waiting commands. -/
def exec (i : Instr) (s : State) : Host.Outcome State Fault Refusal :=
  match i with
  | .partReset => Sys2Proof.Machine.execPartReset s
  | .lossOfFraming => Sys2Proof.Machine.execLossOfFraming s
  | .framingAcquired => Sys2Proof.Machine.execFramingAcquired s
  | .queryArrival words => Sys2Proof.Machine.execQueryArrival words s
  | .undefinedSignal words => Sys2Proof.Machine.execUndefinedSignal words s
  | .openQuery => Sys2Proof.Machine.execOpenQuery s
  | .extendQuery => Sys2Proof.Machine.execExtendQuery s
  | .reclassQuery => Sys2Proof.Machine.execReclassQuery s
  | .closeQuery => Sys2Proof.Machine.execCloseQuery s
  | .arriveQuery => Sys2Proof.Machine.execArriveQuery s
  | .undefinedQuery => Sys2Proof.Machine.execUndefinedQuery s
  | .answer => Sys2Proof.Machine.execAnswer s
  | .drawEmission => Sys2Proof.Machine.execDrawEmission s
  | .staleDiscard => Sys2Proof.Machine.execStaleDiscard s
  | .emitCredit count => Sys2Proof.Machine.execEmitCredit count s
  | .linkReset => Sys2Proof.Machine.execLinkReset s
  | .report port depth => Sys2Proof.Machine.execReport port depth s
  | .dwellExpiry port => Sys2Proof.Machine.execDwellExpiry port s
  | .staleExpiry port => Sys2Proof.Machine.execStaleExpiry port s
  | .drawDeadlineExpiry slot position => Sys2Proof.Machine.execDrawDeadlineExpiry slot position s
  | .idleExpiry slot => Sys2Proof.Machine.execIdleExpiry slot s
  | .lifetimeExpiry slot => Sys2Proof.Machine.execLifetimeExpiry slot s
  | .lingerExpiry slot => Sys2Proof.Machine.execLingerExpiry slot s
  | .enablePort port tag => Sys2Proof.Machine.execEnablePort port tag s
  | .disablePort port tag => Sys2Proof.Machine.execDisablePort port tag s
  | .retireGather port tag => Sys2Proof.Machine.execRetireGather port tag s
  | .purgeAll port tag => Sys2Proof.Machine.execPurgeAll port tag s
  | .metersStart port tag => Sys2Proof.Machine.execMetersStart port tag s
  | .metersStop port tag => Sys2Proof.Machine.execMetersStop port tag s
  | .badCommand code port tag => Sys2Proof.Machine.execBadCommand code port tag s
  | .profileWrite value => Sys2Proof.Machine.execProfileWrite value s
  | .profileNumberWrite value => Sys2Proof.Machine.execProfileNumberWrite value s
  | .adminFloorWrite value => Sys2Proof.Machine.execAdminFloorWrite value s
  | .portStatusRead => Sys2Proof.Machine.execPortStatusRead s
  | .exemptWrite value => Sys2Proof.Machine.execExemptWrite value s
  | .meterConfigWrite value => Sys2Proof.Machine.execMeterConfigWrite value s
  | .meterCountWrite value => Sys2Proof.Machine.execMeterCountWrite value s
  | .meterFlagClear value => Sys2Proof.Machine.execMeterFlagClear value s
  | .tableWindowRead => Sys2Proof.Machine.execTableWindowRead s
  | .attnSummaryWrite value => Sys2Proof.Machine.execAttnSummaryWrite value s
  | .attnEnableWrite value => Sys2Proof.Machine.execAttnEnableWrite value s
  | .poolLowMarkWrite value => Sys2Proof.Machine.execPoolLowMarkWrite value s
  | .registerWrite index lanes value => Sys2Proof.Machine.execRegisterWrite index lanes value s
  | .timebaseAdvance => Sys2Proof.Machine.execTimebaseAdvance s

end Sys2Proof.Machine
end

