-- ==== Sys2Proof/Safety.lean ====
section
/-! DEFINITION. What counts as a safe run of the JD4816: the laws that the manual states of its state, as predicates that
hold after part reset and that every command keeps. -/

namespace Sys2Proof.Machine

/-! ## The form of the storage -/

/-- Every table of the state is in its canonical form (log 11), and the free list is in its own (log 12). -/
structure State.Canonical (s : State) : Prop where
  windows : Table.wf Window.reset s.windows
  slots : Table.wf Slot.reset s.slots
  ports : Table.wf Port.reset s.ports
  profiles : Table.wf Profile.reset s.profiles
  meters : Table.wf Meter.reset s.meters
  queues : ∀ e ∈ s.ports, Table.wf [] e.2.queues
  free : freeWf s.free

/-- The queues, counts and registers stay within the bounds the manual gives them (R16, R18, R23, R97, R114, R121, R135,
R141, R178). -/
structure State.Bounded (s : State) : Prop where
  queryFifo : s.queryFifo.length ≤ 64
  answerFifo : s.answerFifo.length ≤ 64
  credit : s.credit ≤ 1023
  emq : s.emq.length ≤ 256
  pointer : s.pointer < 48
  poolLowMark : s.poolLowMark ≤ 65536
  flight : ∀ p, (s.port p).flight ≤ 16383
  outstanding : ∀ p, (s.port p).outstanding ≤ 16383
  effFloor : ∀ p, (s.port p).effFloor ≤ 7

/-- The fields of a profile that a written 0 does not leave at 0, and the shares, hold a stored value (R150 to R152). -/
structure Profile.Legal (pf : Profile) : Prop where
  dwellFill : pf.dwellFill ≠ 0#16
  dwellCrowd : pf.dwellCrowd ≠ 0#16
  dwellSurge : pf.dwellSurge ≠ 0#16
  fMin : pf.fMin ≠ 0#14
  fMax : pf.fMax ≠ 0#14
  fInit : pf.fInit ≠ 0#14
  sUp : pf.sUp ≠ 0#12
  sDown : pf.sDown ≠ 0#12
  quantum : pf.quantum ≠ 0#8
  lapseLimit : pf.lapseLimit ≠ 0#3
  defaultClass : pf.defaultClass ≠ 0#3
  shareCalm : pf.shares.calm.toNat ≤ 16
  shareFill : pf.shares.fill.toNat ≤ 16
  shareCrowd : pf.shares.crowd.toNat ≤ 16
  shareSurge : pf.shares.surge.toNat ≤ 16

/-- Every profile holds stored values. -/
abbrev State.ProfilesLegal (s : State) : Prop := ∀ n, (s.profileAt n).Legal

/-- Every enabled port's flight limit lies between its profile's F_min and the larger of its F_min and F_max (R112). -/
abbrev State.FlightBounded (s : State) : Prop :=
  ∀ p, p < 48 → (s.port p).enabled = true →
    (s.profileOf p).fMin.toNat ≤ (s.port p).flight ∧ (s.port p).flight ≤ (s.profileOf p).fMaxe

/-! ## Timers of a port (R98, R104, R107) -/

/-- The timers of a port agree with its mode, its staleness and its enable state: a disabled port has none and is not
STALE; an enabled port holds a dwell timer exactly above CALM, suspended exactly while STALE, and a STALE port has no
stale deadline. -/
def Port.timersAgree (pt : Port) : Bool :=
  if pt.enabled then
    (match pt.dwell with
      | .absent => decide (pt.mode = .calm)
      | .armed _ => decide (pt.mode ≠ .calm) && !pt.stale
      | .suspended _ => decide (pt.mode ≠ .calm) && pt.stale)
    && (!pt.stale || decide (pt.staleAt = none))
  else decide (pt.dwell = .absent) && decide (pt.staleAt = none) && !pt.stale

/-- The timers of every port agree. -/
abbrev State.TimersAgree (s : State) : Prop := ∀ p, (s.port p).timersAgree = true

/-! ## Members and gathers (R42, R45, R69, R72, R73, R92) -/

/-- The counts of a member lie within their ranges (R72). -/
def Member.inRange (a : Nat) (m : Member) : Bool :=
  decide (m.entry < 65536) && decide (m.openLeft ≤ a) && decide (m.drawQueued ≤ 255) && decide (m.drawOut ≤ 509) &&
    decide (m.passed ≤ 16777215) && decide (m.trims ≤ 255) && decide (m.lapses ≤ 7) &&
    (decide (m.drawQueued = 0) || decide (m.drawOut ≤ 254)) &&
    (match m.expected with
      | none => true
      | some e => decide (0 < e) && decide (e ≤ 65535))

/-- The balances of a member of an ACTIVE record agree with its phase (R73) and with its deadline (R92), and a member that
is neither finished nor lapsed is below the largest lapse limit (R94). -/
def Member.phaseAgrees (m : Member) : Bool :=
  (match m.phase with
    | .opening => decide (0 < m.openLeft) && decide (m.drawQueued = 0) && decide (m.drawOut = 0)
    | .waiting => decide (m.openLeft = 0) && decide (m.drawQueued = 0) && decide (m.drawOut ≤ 254)
    | .drawn => decide (m.openLeft = 0) && decide (0 < m.drawQueued + m.drawOut)
    | .finished => decide (m.openLeft = 0) && decide (m.drawQueued = 0) && decide (m.drawOut = 0)
    | .lapsed => decide (m.openLeft = 0) && decide (m.drawQueued = 0) && decide (m.drawOut = 0))
  && decide (m.drawDeadline.isSome = true ↔ 0 < m.drawOut ∧ m.drawQueued = 0)
  && (decide (m.phase = .finished) || decide (m.phase = .lapsed) || decide (m.lapses ≤ 6))

/-- A member of a LINGER record holds no draw, no deadline and is not WAITING (R45). -/
def Member.hasLeft (m : Member) : Bool :=
  decide (m.drawQueued = 0) && decide (m.drawOut = 0) && decide (m.drawDeadline = none) && decide (m.phase ≠ .waiting)

/-- The wait ring holds exactly the WAITING members of the roster, each once (R73). -/
def Gather.ringAgrees (g : Gather) : Bool :=
  decide g.ring.Nodup &&
    (g.ring.all fun e => g.roster.any fun m => decide (m.entry = e) && decide (m.phase = .waiting)) &&
    (g.roster.all fun m => decide (m.phase ≠ .waiting) || decide (m.entry ∈ g.ring))

/-- The fields of a record lie within their ranges, its roster holds no entry and no token twice, and its members, wait
ring and deadlines agree with its state (R42, R45, R69, R73). -/
def Gather.lawful (g : Gather) : Bool :=
  decide (g.port < 48) && decide (1 ≤ g.cls) && decide (g.cls ≤ 7) && decide (g.allowance ≤ 255) &&
    decide (g.announced ≤ 4095) && decide (g.roster.length ≤ 256) && decide (g.roster.map Member.entry).Nodup &&
    decide (g.roster.map Member.token).Nodup && (g.roster.all fun m => m.inRange g.allowance) &&
    (match g.stage with
      | .active => g.ringAgrees && (g.roster.all Member.phaseAgrees) && decide (g.lingerAt = none)
      | .linger _ => g.ring.isEmpty && (g.roster.all Member.hasLeft) && g.lingerAt.isSome &&
          decide (g.idle = none) && decide (g.lifetime = none))

/-- The records that are not FREE, each with its slot. -/
def State.records (s : State) : List (Nat × Gather) :=
  s.slots.filterMap fun e => e.2.body.map fun g => (e.1, g)

/-- Every record lies in a slot the part has, is lawful, and belongs to an enabled port (R42, R67); no two records have the
same key (R35). -/
structure State.RecordsLawful (s : State) : Prop where
  slots : ∀ r ∈ s.records, r.1 < 8192
  lawful : ∀ r ∈ s.records, r.2.lawful = true
  enabled : ∀ r ∈ s.records, (s.port r.2.port).enabled = true
  keys : (s.records.map fun r => (r.2.port, r.2.tag)).Nodup

/-! ## Class queues (R123) and the outstanding draw total (R121) -/

/-- The class queue of class `c` at port `p` names, each once, exactly the slots of the queued gathers of that port and
class (R123). -/
abbrev State.QueuesAgree (s : State) : Prop :=
  ∀ p, p < 48 → ∀ c, ((s.port p).queue c).Nodup ∧
    ∀ k, k ∈ (s.port p).queue c ↔ ∃ g, s.gather? k = some g ∧ g.queued = true ∧ g.port = p ∧ g.cls = c

/-- The cells of the draws that the ACTIVE gathers of port `p` have out or queued. -/
def State.owedAt (p : Nat) (s : State) : Nat :=
  ((s.records.filter fun r => decide (r.2.port = p) && decide (r.2.stage = .active)).map fun r => r.2.owed).sum

/-- For every port, the outstanding draw total equals the sum of draw-queued and draw-out over the contributors of that
port's ACTIVE gathers, and it is 0 for a disabled port (R121). -/
abbrev State.DrawsAccounted (s : State) : Prop :=
  ∀ p, p < 48 → (s.port p).outstanding = s.owedAt p ∧ ((s.port p).enabled = false → (s.port p).outstanding = 0)

/-! ## The pool (R69) and the Emission Queue (R136, R137) -/

/-- The fields of every draw entry lie within their ranges (R136). -/
abbrev State.EmissionsLawful (s : State) : Prop :=
  ∀ e ∈ s.emq, e.port < 48 ∧ 1 ≤ e.cells ∧ e.cells ≤ 255 ∧ e.slot < 8192 ∧ e.entry < 65536

/-- The entries held by rosters, record by record in slot order. -/
def State.heldEntries (s : State) : List Nat := s.records.flatMap fun r => r.2.roster.map Member.entry

/-- Every entry of the pool is either free or held, and once: the free entries and the held ones are the 65,536 entries of
the pool in some order (R69). -/
abbrev State.PoolPartitioned (s : State) : Prop :=
  (freeEntries s.free ++ s.heldEntries).Perm (List.range 65536)

/-- Every queued draw of a member of an ACTIVE record waits in the Emission Queue (R137). -/
abbrev State.DrawsQueued (s : State) : Prop :=
  ∀ r ∈ s.records, r.2.stage = .active → ∀ m ∈ r.2.roster, 0 < m.drawQueued →
    ∃ e ∈ s.emq, e.slot = r.1 ∧ e.entry = m.entry ∧ s.validMember e = some (r.2, m)

/-- The laws of the manual together: what a safe run keeps. -/
structure State.Safe (s : State) : Prop where
  canonical : State.Canonical s
  bounded : State.Bounded s
  profiles : State.ProfilesLegal s
  flight : State.FlightBounded s
  timers : State.TimersAgree s
  records : State.RecordsLawful s
  queues : State.QueuesAgree s
  draws : State.DrawsAccounted s
  pool : State.PoolPartitioned s
  emissions : State.EmissionsLawful s
  queued : State.DrawsQueued s

/-! ## The time of the expiries (R11, R12, R13) -/

/-- The expiry of deadline `d` is still to be taken: `d` is a dwell or stale deadline of a port, the idle or lifetime
deadline or a member's draw deadline of an ACTIVE record, or the linger deadline of a lingering one. -/
inductive State.Awaits (s : State) : Time → Prop
  | dwell (p : Nat) (d : Time) : p < 48 → (s.port p).dwell = .armed d → State.Awaits s d
  | stale (p : Nat) (d : Time) : p < 48 → (s.port p).staleAt = some d → State.Awaits s d
  | idle (k : Nat) (g : Gather) (d : Time) : s.gather? k = some g → g.stage = .active → g.idle = some d → State.Awaits s d
  | lifetime (k : Nat) (g : Gather) (d : Time) : s.gather? k = some g → g.stage = .active → g.lifetime = some d →
      State.Awaits s d
  | draw (k : Nat) (g : Gather) (m : Member) (d : Time) : s.gather? k = some g → g.stage = .active → m ∈ g.roster →
      m.drawDeadline = some d → State.Awaits s d
  | linger (k : Nat) (g : Gather) (d : Time) : s.gather? k = some g → g.stage ≠ .active → g.lingerAt = some d →
      State.Awaits s d

/-- Every deadline lies between 1 µs ago, the latest at which its expiry is taken (R12), and the longest duration of R11
ahead; and a suspended dwell timer keeps at most the longest dwell time (R13). -/
structure State.Punctual (s : State) : Prop where
  deadlines : ∀ d, s.Awaits d → (d + 1#32 - s.timebase).toNat ≤ 65535001
  remaining : ∀ p r, p < 48 → (s.port p).dwell = .suspended r → r ≤ 65535000

/-! ## Terms of the claims -/

/-- The query `q` stands at the head of the Query FIFO and may be taken (R17). -/
abbrev State.MayTake (s : State) (q : List Word) : Prop :=
  s.link = .up ∧ s.answerFifo.length < 64 ∧ s.queryFifo.head? = some q

/-- The query passes the checks 1 to 3 (R19). -/
abbrev State.Accepts (s : State) (q : List Word) : Prop :=
  lengthLegal q = true ∧ portOf q < 48 ∧ (s.port (portOf q)).enabled = true

/-- The command that takes a query of a kind code (R14). -/
def queryCommand (kind : BitVec 4) : Instr :=
  match kind.toNat with
  | 1 => .openQuery
  | 2 => .extendQuery
  | 3 => .reclassQuery
  | 4 => .closeQuery
  | 5 => .arriveQuery
  | _ => .undefinedQuery

/-- `t` is `s` with the head query taken and answered with a fault: the status and the parameter, no verdict and no basis,
and 0 in the fields that only OPEN and EXTEND answers carry (R19, R29). Those fields of a faulted OPEN or EXTEND are free
values (log 3). -/
def State.AnsweredFault (s : State) (q : List Word) (status : Status) (parameter : BitVec 16) (t : State) : Prop :=
  ∃ a n, t = { s with queryFifo := s.queryFifo.tail, answerFifo := s.answerFifo ++ [a], freeIndex := n } ∧
    a.kind = kindOf q ∧ a.status = status ∧ a.ruling = none ∧ a.parameter = parameter ∧
    (kindOf q ≠ 1#4 → kindOf q ≠ 2#4 → a.allowance = 0#8 ∧ a.accepted = 0#5 ∧ a.cls = 0#3)

/-- The record whose wait ring the walk of a link reset puts the member of entry `e` on, none where it puts none (R28,
R87): the entry is valid, and its member, with no draw queued any more, wants more and is not on the ring. -/
def State.rewaits (s : State) (e : Emission) : Option Gather :=
  match s.validMember e with
  | none => none
  | some (g, m) =>
    if e.entry ∉ g.ring ∧ Member.wantsMore (s.profileOf e.port) { m with drawQueued := 0 } = true then some g else none

/-- The entry numbers that the walk of a link reset appends to the wait ring of the record of slot `k`, in the order of the
Emission Queue, each once (R28, R87). -/
def State.rewaitedAt (s : State) (k : Nat) : List Nat :=
  ((s.emq.filter fun e => decide (e.slot = k) && (s.rewaits e).isSome).map Emission.entry).eraseDups

/-- The slots that the walk of a link reset appends to the queue of class `c` at port `p`, in the order of the Emission
Queue, each once: those of its records that were not suspended and had no waiting member (R28, R123, R125). -/
def State.requeuedAt (s : State) (p c : Nat) : List Nat :=
  ((s.emq.filter fun e => match s.rewaits e with
    | none => false
    | some g => decide (g.port = p ∧ g.cls = c ∧ g.suspended = false ∧ g.ring = [])).map Emission.slot).eraseDups

/-- The listed entries whose tokens are not in `seen` and on no earlier entry of the list, in list order (R51). -/
def firstListed : List Token → List (Token × Nat) → List (Token × Nat)
  | _, [] => []
  | seen, x :: rest => if x.1 ∈ seen then firstListed seen rest else x :: firstListed (x.1 :: seen) rest

/-- A member as a listed entry adds it to a record with opening allowance `a`: OPENING with open-left `a`, or WAITING where
`a` is 0 (R51, R72). -/
def Member.listed (a entry : Nat) (x : Token × Nat) : Member where
  entry := entry
  token := x.1
  announced := true
  expected := if x.2 = 0 then none else some x.2
  phase := if 0 < a then .opening else .waiting
  openLeft := a
  drawQueued := 0
  drawOut := 0
  passed := 0
  trims := 0
  lapses := 0
  drawDeadline := none

/-- `taken` takes, of which `refused` were refused too, raise POOL_LOW (R71): the last take left fewer free entries than the
mark, or a refused take met a mark above 0. -/
def State.attnAfterTakes (s : State) (taken : Nat) (refused : Bool) : BitVec 7 :=
  if (0 < taken ∧ freeCount s.free - taken < s.poolLowMark) ∨ (refused = true ∧ 0 < s.poolLowMark) then
    s.attn ||| 0x20#7
  else s.attn

/-- `t` is `s` with the ACTIVE record `g` of slot `k` ended with outcome `o` and its draws returned (R45, R46, R48): it
lingers with its draws zeroed, its ring empty and its deadlines removed, or is FREE where the linger time is 0; it is off
its class queue and the port's O is less by its members' draws. -/
structure State.Ended (s : State) (k : Nat) (g : Gather) (o : Ending) (t : State) : Prop where
  lingers : (s.profileOf g.port).lingerTime ≠ 0#16 → t.free = s.free ∧
    t.slot k = ⟨(s.slot k).generation, some { g with
      stage := .linger o
      roster := g.roster.map fun m => { m with
        drawQueued := 0
        drawOut := 0
        drawDeadline := none
        phase := if m.phase = .waiting then .drawn else m.phase }
      ring := []
      idle := none
      lifetime := none
      lingerAt := some (s.timebase + BitVec.ofNat 32 (s.profileOf g.port).lingerTime.toNat) }⟩
  freed : (s.profileOf g.port).lingerTime = 0#16 → t.slot k = ⟨(s.slot k).generation + 1#8, none⟩ ∧
    freeEntries t.free = freeEntries s.free ++ g.roster.map Member.entry
  otherSlots : ∀ j, j ≠ k → t.slot j = s.slot j
  queue : ∀ c, (t.port g.port).queue c =
    if g.queued = true ∧ c = g.cls then ((s.port g.port).queue c).filter (· ≠ k) else (s.port g.port).queue c
  port : { t.port g.port with queues := (s.port g.port).queues } =
    { s.port g.port with
      outstanding := (s.port g.port).outstanding - (g.roster.map fun m => m.drawQueued + m.drawOut).sum }
  otherPorts : ∀ p, p ≠ g.port → t.port p = s.port p
  frame : t = { s with slots := t.slots, ports := t.ports, free := t.free }

/-- `t` is `s` with the record `g` of slot `k` FREE (R48). -/
structure State.Freed (s : State) (k : Nat) (g : Gather) (t : State) : Prop where
  slot : t.slot k = ⟨(s.slot k).generation + 1#8, none⟩
  otherSlots : ∀ j, j ≠ k → t.slot j = s.slot j
  free : freeEntries t.free = freeEntries s.free ++ g.roster.map Member.entry
  frame : t = { s with slots := t.slots, free := t.free }

/-- The two states have the same settings and pressure at a port: all but the draw state of R120. -/
abbrev Port.SamePressure (a b : Port) : Prop :=
  { a with outstanding := 0, queues := [], blocked := false } = { b with outstanding := 0, queues := [], blocked := false }

/-- The draw at the head of port `p` (R89, R129): member `m`, at the head of the ring of the record `g` of slot `k`, at the
head of the queue of class `c`, the highest class above the effective floor with a queued gather. -/
structure State.HeadDraw (s : State) (p c k : Nat) (g : Gather) (m : Member) : Prop where
  cls : 1 ≤ c ∧ c ≤ 7 ∧ (s.port p).effFloor < c
  highest : ∀ c', c < c' → c' ≤ 7 → (s.port p).queue c' = []
  slot : ((s.port p).queue c).head? = some k
  record : s.gather? k = some g
  member : ∃ e, g.ring.head? = some e ∧ g.member? e = some m

end Sys2Proof.Machine
end

