-- ==== Sys2Proof/Certificates/Slice0/Obligations.lean ====
section
/-! DEFINITION. The statements for the provers. Each formalises rules of the manual, named in its docstring. -/

open Sys2Proof Sys2Proof.Machine

/-! ## The machine -/

/-- A step takes the command at the front of the queue and carries it out with the queue's rest waiting. On an empty queue
the part idles: that clause is the model's choice (log 6). -/
def Obligations.StepRunsFrontCommand : Prop :=
  (∀ (c : Instr) (rest : List Instr) (s : State), s.pending = c :: rest → step s = exec c { s with pending := rest }) ∧
  (∀ (c : Instr) (s : State), step { s with pending := c :: s.pending } = exec c s) ∧
  ∀ s : State, s.pending = [] → step s = .next s

/-- Every command, with any operands and in every state, answers a next state, and leaves the waiting commands alone. What
the part refuses it answers with a fault status or a result code (R19, R158). That a command answers a next state also
where its event cannot occur is the model's choice (log 5), and so is that PART_RESET leaves the waiting commands
(log 8). -/
def Obligations.EveryCommandAnswersNext : Prop :=
  ∀ (c : Instr) (s : State), ∃ t, exec c s = .next t ∧ t.pending = s.pending

/-! ## Laws that every command keeps -/

/-- The laws of `State.Safe` hold after part reset. -/
def Obligations.ResetIsSafe : Prop := State.reset.Safe

/-- Every step keeps the canonical form of the storage (log 11, log 12: the model's own form). -/
def Obligations.CanonicalKept : Prop :=
  ∀ s t : State, s.Canonical → step s = .next t → t.Canonical

/-- Every step keeps the bounds of the FIFOs, the Emission Queue, the credit, the arbiter's pointer, the pool-low mark, and
each port's F, O and effective floor (R16, R18, R23, R97, R121, R135, R141, R178). -/
def Obligations.BoundsKept : Prop :=
  ∀ s t : State, s.Bounded → step s = .next t → t.Bounded

/-- Every enabled port's F stays between F_min and F_maxe of its profile (R112), and every profile keeps holding stored
values (R150 to R152). -/
def Obligations.FlightBoundsKept : Prop :=
  ∀ s t : State, s.ProfilesLegal → s.FlightBounded → step s = .next t → t.ProfilesLegal ∧ t.FlightBounded

/-- Every step keeps the timers of every port in agreement with its mode, its staleness and its enable state (R98, R104,
R107, R108). -/
def Obligations.PortTimersKept : Prop :=
  ∀ s t : State, s.TimersAgree → step s = .next t → t.TimersAgree

/-- From a safe state, after every step each port's O equals the sum of draw-queued and draw-out over the contributors of
its ACTIVE gathers, and is 0 for a disabled port (R121). -/
def Obligations.DrawsAccountedKept : Prop :=
  ∀ s t : State, s.Safe → step s = .next t → t.DrawsAccounted

/-- Every step from a safe state leads to a safe state: all the laws together. -/
def Obligations.SafetyKept : Prop :=
  ∀ s t : State, s.Safe → step s = .next t → t.Safe

/-! ## Rules of the whole machine -/

/-- A port's mode falls only by ENABLE_PORT of the port, which sets CALM, by a dwell expiry of the port, by one level and
never while the port is STALE, or by part reset (R105). -/
def Obligations.ModeFallsByDwellAlone : Prop :=
  ∀ (c : Instr) (s t : State) (p : Nat), s.TimersAgree → exec c s = .next t →
    (t.port p).mode.level < (s.port p).mode.level →
    c = .partReset ∨
    (∃ tag, c = .enablePort (BitVec.ofNat 8 p) tag ∧ (t.port p).mode = .calm) ∨
    (c = .dwellExpiry p ∧ (t.port p).mode.level + 1 = (s.port p).mode.level ∧ (s.port p).stale = false)

/-- A bit of ATTN_SUMMARY stays set until the host writes a one to it, or part reset (R176); ATTN_ENABLE, the pool-low mark,
the windows, the profiles and the port settings change only by their own writes, commands and part reset (R31, R149, R156,
R177, R178). -/
def Obligations.SettingsChangeByTheirWritesAlone : Prop :=
  ∀ (c : Instr) (s t : State), exec c s = .next t → c ≠ .partReset →
    (∀ i, i < 7 → s.attn.getLsbD i = true → t.attn.getLsbD i = false →
      ∃ v : Word, c = .attnSummaryWrite v ∧ v.getLsbD i = true) ∧
    (t.attnEnable ≠ s.attnEnable → ∃ v, c = .attnEnableWrite v) ∧
    (t.poolLowMark ≠ s.poolLowMark → ∃ v, c = .poolLowMarkWrite v) ∧
    (t.windows ≠ s.windows → ∃ v, c = .exemptWrite v) ∧
    (t.profiles ≠ s.profiles → ∃ v, c = .profileWrite v) ∧
    (∀ p, (t.port p).profile ≠ (s.port p).profile → ∃ v, c = .profileNumberWrite v) ∧
    (∀ p, (t.port p).adminFloor ≠ (s.port p).adminFloor → ∃ v, c = .adminFloorWrite v) ∧
    (∀ p, (t.port p).enabled ≠ (s.port p).enabled →
      ∃ tag, c = .enablePort (BitVec.ofNat 8 p) tag ∨ c = .disablePort (BitVec.ofNat 8 p) tag)

/-- The life of a record in its slot, whatever the command but part reset: a slot's generation stays or advances by one; it
advances exactly when the slot's record went FREE; while it stays, the record keeps its key and its opening allowance, and
a record in LINGER is not changed at all; and only OPEN makes a FREE slot hold a record (R1, R44, R46, R54). -/
def Obligations.RecordLife : Prop :=
  ∀ (c : Instr) (s t : State) (k : Nat), s.Safe → exec c s = .next t → c ≠ .partReset →
    ((t.slot k).generation = (s.slot k).generation ∨
      ((t.slot k).generation = (s.slot k).generation + 1#8 ∧ (s.gather? k).isSome = true)) ∧
    (∀ g, s.gather? k = some g → (t.slot k).generation = (s.slot k).generation →
      ∃ g', t.gather? k = some g' ∧ g'.port = g.port ∧ g'.tag = g.tag ∧ g'.allowance = g.allowance ∧
        (g.stage ≠ .active → g' = g)) ∧
    ((s.gather? k = none ∨ (t.slot k).generation ≠ (s.slot k).generation) → t.gather? k ≠ none → c = .openQuery)

/-- While a record stands, no entry leaves its roster or changes its place, entries are added at the tail alone, and no
member's passed or trims falls (R74, R84). -/
def Obligations.RosterGrowsAtTail : Prop :=
  ∀ (c : Instr) (s t : State) (k : Nat) (g : Gather), s.Safe → exec c s = .next t → c ≠ .partReset →
    s.gather? k = some g → (t.slot k).generation = (s.slot k).generation →
    ∃ g' : Gather, t.gather? k = some g' ∧ ∀ (i : Nat) (m : Member), g.roster[i]? = some m →
      ∃ m' : Member, g'.roster[i]? = some m' ∧ m'.entry = m.entry ∧ m'.token = m.token ∧ m'.announced = m.announced ∧
        m'.expected = m.expected ∧ m'.openLeft ≤ m.openLeft ∧ m.passed ≤ m'.passed ∧ m.trims ≤ m'.trims

/-! ## Part reset and the link -/

/-- PART_RESET sets every piece of state to the part reset value that its rule gives (R10, R16, R18, R23, R25, R26, R31,
R43, R69, R97, R120, R135, R141, R149 to R153, R156, R164, R172). What the rules give no value is not stated. -/
def Obligations.PartResetValues : Prop :=
  ∀ s : State, ∃ t, exec .partReset s = .next t ∧
    t.timebase = 0#32 ∧ t.link = .resetting ∧ t.queryFifo = [] ∧ t.answerFifo = [] ∧ t.credit = 0 ∧ t.nextTx = .answer ∧
    t.emq = [] ∧ t.pointer = 47 ∧ freeEntries t.free = List.range 65536 ∧ (∀ k, t.slot k = ⟨0#8, none⟩) ∧
    (∀ p, t.port p =
      { enabled := false, profile := 0#3, adminFloor := 0#3, mode := .calm, dwell := .absent, staleAt := none
        stale := false, flight := 1024, atFloor := false, atCeiling := false, effFloor := 0, outstanding := 0
        queues := [], blocked := false }) ∧
    (∀ i, (t.window i).enabled = false ∧ (t.window i).scopeAny = true ∧ (t.window i).base = 0#24 ∧
      (t.window i).mask = 0#24) ∧
    (∀ n, t.profileAt n =
      { m1 := 256#16, m2 := 1024#16, m3 := 3072#16, hysteresis := 128#16, dwellFill := 200#16, dwellCrowd := 500#16
        dwellSurge := 1000#16, staleTime := 100#16, fMin := 64#14, fMax := 4096#14, fInit := 1024#14
        floors := ⟨0#3, 0#3, 2#3, 4#3⟩, sUp := 32#12, sDown := 128#12, quantum := 32#8, refill := 8#8
        drawLifetime := 500#16, shares := ⟨16#5, 12#5, 8#5, 4#5⟩, caps := ⟨64#8, 32#8, 16#8, 4#8⟩, idleTime := 2000#16
        lingerTime := 200#16, maxLifetime := 1000#16, lapseLimit := 3#3, defaultClass := 4#3
        stray := ⟨.pass, .pass, .mark, .trim⟩, straggler := ⟨.pass, .mark, .trim, .trim⟩ }) ∧
    (∀ i, t.meter i = ⟨0#6, .cellsPassed, .never, .never, .never, 0#40, false, 0#40, false, false⟩) ∧
    t.command = 0#32 ∧ t.result = ⟨0#8, 0#8, .ok⟩ ∧ t.select = ⟨0#3, 0#21, 0#8⟩ ∧ t.attn = 0#7 ∧ t.attnEnable = 0#7 ∧
    t.poolLowMark = 1024

/-- In RESETTING, framing acquired makes the link UP with no other effect, loss of framing has none, nothing is received,
no query is taken and nothing is sent (R26). -/
def Obligations.ResettingReceivesAndSendsNothing : Prop :=
  ∀ s : State, s.link = .resetting →
    exec .framingAcquired s = .next { s with link := .up } ∧ exec .lossOfFraming s = .next s ∧
    (∀ m, exec (.queryArrival m) s = .next s) ∧ (∀ m, exec (.undefinedSignal m) s = .next s) ∧
    (∀ n, exec (.emitCredit n) s = .next s) ∧ exec .linkReset s = .next s ∧
    (∀ p d, exec (.report p d) s = .next s) ∧
    ∀ c ∈ [Instr.openQuery, .extendQuery, .reclassQuery, .closeQuery, .arriveQuery, .undefinedQuery, .answer,
      .drawEmission, .staleDiscard], exec c s = .next s

/-- A link reset, by LINK_RESET or by loss of framing while UP, in every state: the FIFOs are emptied, the credit is 0, the
next choice is an answer, LINK_RESET is latched, loss of framing leaves the link RESETTING, and settings, pool and registers
stand. From a safe state, after the walk (`u`): the Emission Queue is empty, no member holds a queued draw, departed draws
stand, each port's O is what its departed draws hold; each wait ring has at its tail, in the order of the Emission Queue, the
members of its record's valid entries that want more and were off the ring; each class queue has at its tail, in the same
order, the slots of the records that so came to belong on it; and records, members and pressure change in nothing else. What
follows is the serving of the ports, which `Obligations.StaleEntryDiscardedAndPlaceHanded` describes (R26, R27, R28, R87,
R125, R144). -/
def Obligations.LinkResetEffects : Prop :=
  (∀ (s : State) (c : Instr), s.link = .up → c = .linkReset ∨ c = .lossOfFraming →
    ∃ t : State, exec c s = .next t ∧ t.attn.getLsbD 1 = true ∧
      t = { s with
        link := if c = .linkReset then .up else .resetting
        queryFifo := []
        answerFifo := []
        credit := 0
        nextTx := .answer
        slots := t.slots
        ports := t.ports
        emq := t.emq
        pointer := t.pointer
        meters := t.meters
        attn := t.attn }) ∧
  ∀ (s : State) (c : Instr), s.Safe → s.link = .up → c = .linkReset ∨ c = .lossOfFraming →
    ∃ (t u : State) (called : List Nat), exec c s = .next t ∧
      u = { s with slots := u.slots, ports := u.ports, emq := [] } ∧
      (∀ k, (u.slot k).generation = (s.slot k).generation) ∧
      (∀ k, s.gather? k = none → u.gather? k = none) ∧
      (∀ k g, s.gather? k = some g →
        let pf := s.profileOf g.port
        let life := if pf.drawLifetime = 0#16 then 65535 else pf.drawLifetime.toNat
        u.gather? k = some { g with
          ring := g.ring ++ s.rewaitedAt k
          roster := g.roster.map fun (m : Member) =>
            if m.drawQueued = 0 then m
            else { m with
              drawQueued := 0
              drawDeadline := if 0 < m.drawOut then some (s.timebase + BitVec.ofNat 32 life) else none
              phase := if Member.wantsMore pf { m with drawQueued := 0 } then .waiting else .drawn } }) ∧
      (∀ p, (u.port p).SamePressure (s.port p) ∧ (u.port p).blocked = (s.port p).blocked) ∧
      (∀ p c, (u.port p).queue c = (s.port p).queue c ++ s.requeuedAt p c) ∧
      (∀ p, p < 48 → (u.port p).outstanding = u.owedAt p) ∧
      (∀ p, p ∈ called ↔ ∃ e ∈ s.emq, e.port = p ∧ (s.validMember e).isSome = true) ∧
      t = { u.serveAll called with
        link := if c = .linkReset then .up else .resetting
        queryFifo := []
        answerFifo := []
        credit := 0
        nextTx := .answer
        attn := (u.serveAll called).attn ||| 0x02#7 }

/-- QUERY_ARRIVAL while UP: the query is appended to a Query FIFO that holds fewer than 64, and discarded with LINK_OVERRUN
latched by one that holds 64; part reset and link reset leave the Query FIFO empty (R16). -/
def Obligations.QueryArrivalAppendsOrOverruns : Prop :=
  (∀ (s : State) (m : List Word), s.link = .up → m ≠ [] → (kindOf m).toNat < 8 →
    (s.queryFifo.length < 64 → exec (.queryArrival m) s = .next { s with queryFifo := s.queryFifo ++ [m] }) ∧
    (64 ≤ s.queryFifo.length → exec (.queryArrival m) s = .next { s with attn := s.attn ||| 0x01#7 })) ∧
  (∀ s t : State, exec .partReset s = .next t → t.queryFifo = []) ∧
  (∀ (c : Instr) (s t : State), c = .linkReset ∨ c = .lossOfFraming → s.link = .up →
    exec c s = .next t → t.queryFifo = [])

/-- The emission credit: an EMIT_CREDIT adds its count, the sum held at 1,023; each emission sent takes one, a discard
takes none; part reset and link reset set it to 0; it stays within 0 to 1,023; and departures are possible once it is above
0 while the link is UP and the queue holds entries (R23). -/
def Obligations.EmissionCredit : Prop :=
  (∀ (s : State) (n : BitVec 8), s.link = .up →
    exec (.emitCredit n) s = .next { s with credit := min (s.credit + n.toNat) 1023 }) ∧
  (∀ s t : State, exec .drawEmission s = .next t → t = s ∨ t.credit + 1 = s.credit) ∧
  (∀ s t : State, exec .staleDiscard s = .next t → t.credit = s.credit) ∧
  (∀ s t : State, exec .partReset s = .next t → t.credit = 0) ∧
  (∀ (c : Instr) (s t : State), c = .linkReset ∨ c = .lossOfFraming → s.link = .up → exec c s = .next t → t.credit = 0) ∧
  (∀ (c : Instr) (s t : State), s.credit ≤ 1023 → exec c s = .next t → t.credit ≤ 1023) ∧
  ∀ (s : State) (e : Emission) (rest : List Emission), s.link = .up → 0 < s.credit → s.emq = e :: rest →
    s.takeableEntry = some e

/-- Framed messages are sorted by kind code and length: the query space, the three signals with their fields, and the
signals that are discarded on arrival with no effect; and the lengths that each kind requires (R14, R15, R29). That the
link frames no message without a word is the model's choice (log 19). -/
def Obligations.MessagesSortedByKindAndLength : Prop :=
  (∀ m : List Word, m ≠ [] →
    let w := wordAt m 0
    let kind := w >>> 28
    (kind < 8#32 → receive m = some (.queryArrival m)) ∧
    (kind = 8#32 → m.length = 1 → receive m = some (.report (w.setWidth 8) ((w >>> 12).setWidth 16))) ∧
    (kind = 9#32 → m.length = 1 → (w >>> 20).setWidth 8 ≠ 0#8 →
      receive m = some (.emitCredit ((w >>> 20).setWidth 8))) ∧
    (kind = 9#32 → m.length = 1 → (w >>> 20).setWidth 8 = 0#8 → receive m = some (.undefinedSignal m)) ∧
    (kind = 10#32 → m.length = 1 → receive m = some .linkReset) ∧
    (8#32 ≤ kind → kind ≤ 10#32 → m.length ≠ 1 → receive m = some (.undefinedSignal m)) ∧
    (11#32 ≤ kind → receive m = some (.undefinedSignal m))) ∧
  (∀ (m : List Word) (s : State), exec (.undefinedSignal m) s = .next s) ∧
  ∀ m : List Word, lengthLegal m = true ↔
    ((kindOf m = 1#4 ∨ kindOf m = 2#4) ∧ entryCountOf m ≤ 24 ∧ m.length = 2 + 2 * entryCountOf m) ∨
    ((kindOf m = 3#4 ∨ kindOf m = 4#4) ∧ m.length = 2) ∨ (kindOf m = 5#4 ∧ m.length = 3) ∨
    ((kindOf m = 8#4 ∨ kindOf m = 9#4 ∨ kindOf m = 10#4) ∧ m.length = 1)

/-- The part's own messages in bits: the fields of an ANSWER and of a DRAW emission stand where the layouts put them, with
zeros in the bits sent as 0; the status, verdict and basis fields hold the numbers of their code tables, and the parameter
of GATHER_CLOSED those of the outcome table (R29). -/
def Obligations.SentMessageLayouts : Prop :=
  (∀ a : Answer,
    let status := match a.status with
      | .ok => 0#4
      | .format => 1#4
      | .portRange => 2#4
      | .portOff => 3#4
      | .noGather => 4#4
      | .gatherClosed => 5#4
      | .duplicateTag => 6#4
      | .noRoom => 7#4
    let verdict := match a.ruling with
      | none => 0#2
      | some (.pass, _) => 0#2
      | some (.mark, _) => 1#2
      | some (.trim, _) => 2#2
    let basis := match a.ruling with
      | none => 0#2
      | some (_, .roster) => 0#2
      | some (_, .exempt) => 1#2
      | some (_, .straggler) => 2#2
      | some (_, .stray) => 3#2
    ∃ w0 w1, a.words = [w0, w1] ∧
    w0 >>> 28 = 0xC#32 ∧ (w0 >>> 24).setWidth 4 = a.kind ∧ (w0 >>> 20).setWidth 4 = status ∧
    (w0 >>> 18).setWidth 2 = verdict ∧ (w0 >>> 16).setWidth 2 = basis ∧
    w0.setWidth 16 = a.parameter ∧
    (w1 >>> 24).setWidth 8 = a.allowance ∧ (w1 >>> 19).setWidth 5 = a.accepted ∧ (w1 >>> 16).setWidth 3 = a.cls ∧
    w1.setWidth 16 = 0#16) ∧
  (Ending.code .complete = 1#16 ∧ Ending.code .closed = 2#16 ∧ Ending.code .idle = 3#16 ∧
    Ending.code .overdue = 4#16) ∧
  ∀ e : Emission, e.cells < 256 → e.port < 256 → ∃ w0 w1 w2, e.words = [w0, w1, w2] ∧
    w0.toNat = 0xD * 2 ^ 28 + e.cells * 2 ^ 20 + e.port ∧ w1.toNat = e.tag.toNat * 2 ^ 16 ∧ w2.toNat = e.token.toNat

/-- The checks 1 to 3 on a query that may be taken, in their order, and the fault each answers: FORMAT for a length that is
not its kind's, which every query of no query kind has, PORT_RANGE for a port of 48 or above, PORT_OFF for a disabled port.
Nothing changes but the FIFOs and the meters (R17, R19). -/
def Obligations.LinkChecksAnswerFaults : Prop :=
  (∀ q : List Word, kindOf q = 0#4 ∨ kindOf q = 6#4 ∨ kindOf q = 7#4 → lengthLegal q = false) ∧
  ∀ (s : State) (q : List Word), s.MayTake q → (kindOf q).toNat < 8 →
    (lengthLegal q = false → ∃ t, exec (queryCommand (kindOf q)) s = .next t ∧
      (s.offerTo 63#6 .queryFaults 1).AnsweredFault q .format ((kindOf q).setWidth 16) t) ∧
    (lengthLegal q = true → 48 ≤ portOf q → ∃ t, exec (queryCommand (kindOf q)) s = .next t ∧
      (s.offerTo 63#6 .queryFaults 1).AnsweredFault q .portRange (BitVec.ofNat 16 (portOf q)) t) ∧
    (lengthLegal q = true → portOf q < 48 → (s.port (portOf q)).enabled = false →
      ∃ t, exec (queryCommand (kindOf q)) s = .next t ∧
        (s.offer (portOf q) .queryFaults 1).AnsweredFault q .portOff (BitVec.ofNat 16 (portOf q)) t)

/-! ## Gather records -/

/-- The Gather Index finds a key exactly where a record in ACTIVE or LINGER has it, and then that record's slot (R35, R37). -/
def Obligations.GatherIndexIsExact : Prop :=
  ∀ (s : State) (p : Nat) (t : Tag), s.Canonical → s.RecordsLawful →
    (∀ k g, s.lookupGather p t = some (k, g) ↔ s.gather? k = some g ∧ g.port = p ∧ g.tag = t) ∧
    (s.lookupGather p t = none ↔ ∀ k g, s.gather? k = some g → ¬(g.port = p ∧ g.tag = t))

/-- The checks 4 to 7 of the Gather Table: NO_GATHER, GATHER_CLOSED with the outcome, DUPLICATE_TAG with the slot, and
NO_ROOM, which counts OPENS_REFUSED and latches OPEN_REFUSED as well. Nothing else changes (R19, R49). -/
def Obligations.GatherTableAnswersFaults : Prop :=
  ∀ (s : State) (q : List Word), s.MayTake q → s.Accepts q →
    (kindOf q = 2#4 ∨ kindOf q = 3#4 ∨ kindOf q = 4#4 → s.lookupGather (portOf q) (tagOf q) = none →
      ∃ t, exec (queryCommand (kindOf q)) s = .next t ∧
        (s.offer (portOf q) .queryFaults 1).AnsweredFault q .noGather 0#16 t) ∧
    (kindOf q = 2#4 ∨ kindOf q = 3#4 → ∀ k g o, s.lookupGather (portOf q) (tagOf q) = some (k, g) →
      g.stage = .linger o → ∃ t, exec (queryCommand (kindOf q)) s = .next t ∧
        (s.offer (portOf q) .queryFaults 1).AnsweredFault q .gatherClosed o.code t) ∧
    (kindOf q = 1#4 → ∀ k g, s.lookupGather (portOf q) (tagOf q) = some (k, g) → g.stage = .active →
      ∃ t, exec .openQuery s = .next t ∧
        (s.offer (portOf q) .queryFaults 1).AnsweredFault q .duplicateTag (BitVec.ofNat 16 k) t) ∧
    (kindOf q = 1#4 → s.lookupGather (portOf q) (tagOf q) = none → (∀ k, k < 8192 → (s.gather? k).isSome = true) →
      ∃ t, exec .openQuery s = .next t ∧
        (State.offer (portOf q) .queryFaults 1
          { s.offer (portOf q) .opensRefused 1 with
            attn := (s.offer (portOf q) .opensRefused 1).attn ||| 0x10#7 }).AnsweredFault q .noRoom 0#16 t)

/-- An OPEN of a key that is not indexed takes the lowest FREE slot: the record's fields, the opening allowance A, the
deadlines, the roster of the listed entries that the pool had room for, in list order and each token once, the wait ring
where A is 0, the pool, the class queue, POOL_LOW, the GATHERS_OPENED offer, the pass that an append calls for, and the
answer (R49 to R54, R70 to R72, R125). -/
def Obligations.OpenTakesLowestFreeSlot : Prop :=
  ∀ (s : State) (q : List Word) (k : Nat), s.MayTake q → kindOf q = 1#4 → s.Accepts q → (freeEntries s.free).Nodup →
    s.lookupGather (portOf q) (tagOf q) = none → k < 8192 → s.gather? k = none →
    (∀ j, j < k → (s.gather? j).isSome = true) →
    let p := portOf q
    let pf := s.profileOf p
    let mode := (s.port p).mode
    let listed := firstListed [] (listedOf q)
    let added := listed.take (freeCount s.free)
    let cls := if classOf q = 0 then pf.defaultClass.toNat else classOf q
    let n' := max 1 (min 256 (max (announcedOf q) (entryCountOf q)))
    let a := min (pf.caps.get mode).toNat ((s.port p).flight * (pf.shares.get mode).toNat / (16 * n'))
    let roster := List.zipWith (Member.listed a) (freeEntries s.free) added
    let appended := decide (a = 0 ∧ added ≠ [])
    ∃ u : State,
      u.slot k = ⟨(s.slot k).generation, some
        { port := p, tag := tagOf q, cls := cls, suspended := false, allowance := a, announced := announcedOf q
          roster := roster, ring := if a = 0 then roster.map Member.entry else [], stage := .active
          idle := if pf.idleTime = 0#16 then none else some (s.timebase + BitVec.ofNat 32 pf.idleTime.toNat)
          lifetime :=
            if pf.maxLifetime = 0#16 then none
            else some (s.timebase + BitVec.ofNat 32 (pf.maxLifetime.toNat * 1000))
          lingerAt := none }⟩ ∧
      (∀ j, j ≠ k → u.slot j = s.slot j) ∧
      freeEntries u.free = (freeEntries s.free).drop added.length ∧
      u = { s with
        queryFifo := s.queryFifo.tail
        slots := u.slots
        free := u.free
        ports := if appended then (s.enqueue p cls k).ports else s.ports
        attn := s.attnAfterTakes added.length (decide (added.length < listed.length)) } ∧
      exec .openQuery s = .next (((u.offer p .gathersOpened 1).passIf appended p).appendAnswer
        ⟨1#4, .ok, none, BitVec.ofNat 16 k, BitVec.ofNat 8 a, BitVec.ofNat 5 added.length, BitVec.ofNat 3 cls⟩)

/-- An OPEN of a key indexed in LINGER first sends that record FREE and goes on as for a key not indexed, and always finds a
FREE slot (R48, R49). -/
def Obligations.OpenReplacesLingeringRecord : Prop :=
  ∀ (s : State) (q : List Word) (k : Nat) (g : Gather) (o : Ending), s.Canonical → s.RecordsLawful → s.MayTake q →
    kindOf q = 1#4 → s.Accepts q → s.lookupGather (portOf q) (tagOf q) = some (k, g) → g.stage = .linger o →
    ∃ t : State, s.Freed k g t ∧ t.lookupGather (portOf q) (tagOf q) = none ∧
      (∃ j, j < 8192 ∧ t.gather? j = none ∧ ∀ i, i < j → (t.gather? i).isSome = true) ∧
      exec .openQuery s = exec .openQuery t

/-- An EXTEND on an ACTIVE record: the announced count never falls, the listed entries are added at the roster's tail as the
roster and the pool have room, the idle deadline is re-armed, A and the class stand, and the answer says how many were added
(R51, R55, R61, R71, R125). The takes, and the takes refused because the pool was short of the roster's room, raise POOL_LOW
as R71 gives. Only where the roster filled as the pool ran empty is it left open whether a further listed entry makes a
refused take: `tried` (log 4). -/
def Obligations.ExtendAddsListedEntries : Prop :=
  ∀ (s : State) (q : List Word) (k : Nat) (g : Gather), s.MayTake q → kindOf q = 2#4 → s.Accepts q →
    s.lookupGather (portOf q) (tagOf q) = some (k, g) → g.stage = .active → (freeEntries s.free).Nodup →
    (∀ m ∈ g.roster, m.entry ∉ freeEntries s.free) → (∀ e ∈ g.ring, e ∉ freeEntries s.free) →
    let p := portOf q
    let pf := s.profileOf p
    let listed := firstListed (g.roster.map Member.token) (listedOf q)
    let added := listed.take (min (freeCount s.free) (256 - g.roster.length))
    let members := List.zipWith (Member.listed g.allowance) (freeEntries s.free) added
    let appended := decide (g.allowance = 0 ∧ added ≠ [] ∧ g.suspended = false ∧ g.ring = [])
    ∃ u : State,
      u.slot k = ⟨(s.slot k).generation, some { g with
        announced := if announcedOf q = 0 then g.announced else max g.announced (announcedOf q)
        roster := g.roster ++ members
        ring := g.ring ++ if g.allowance = 0 then members.map Member.entry else []
        idle := if pf.idleTime = 0#16 then none else some (s.timebase + BitVec.ofNat 32 pf.idleTime.toNat) }⟩ ∧
      (∀ j, j ≠ k → u.slot j = s.slot j) ∧
      freeEntries u.free = (freeEntries s.free).drop added.length ∧
      (∃ tried : Bool, u.attn = s.attnAfterTakes added.length (decide (added.length < listed.length ∧
        (freeCount s.free < 256 - g.roster.length ∨ (freeCount s.free = 256 - g.roster.length ∧ tried = true))))) ∧
      u = { s with
        queryFifo := s.queryFifo.tail
        slots := u.slots
        free := u.free
        ports := if appended then (s.enqueue p g.cls k).ports else s.ports
        attn := u.attn } ∧
      exec .extendQuery s = .next ((u.passIf appended p).appendAnswer
        ⟨2#4, .ok, none, BitVec.ofNat 16 k, BitVec.ofNat 8 g.allowance, BitVec.ofNat 5 added.length,
          BitVec.ofNat 3 g.cls⟩)

/-- A RECLASS on an ACTIVE record: class field 0 suspends it and takes it off its queue; 1 to 7 lifts a suspension and sets
the class, and a record with a waiting member that was suspended or changes class is appended to the tail of the new
class's queue, with a pass; a record on the queue of that class keeps its place. The idle deadline is re-armed and the
answer is OK with the slot (R56, R57, R61, R125, R126). -/
def Obligations.ReclassSuspendsOrMoves : Prop :=
  ∀ (s : State) (q : List Word) (k : Nat) (g : Gather), s.MayTake q → kindOf q = 3#4 → s.Accepts q →
    s.lookupGather (portOf q) (tagOf q) = some (k, g) → g.stage = .active →
    let p := portOf q
    let v := classOf q
    let pf := s.profileOf p
    let idle := if pf.idleTime = 0#16 then none else some (s.timebase + BitVec.ofNat 32 pf.idleTime.toNat)
    let taken : State := { s with queryFifo := s.queryFifo.tail }
    let answer : Answer := ⟨3#4, .ok, none, BitVec.ofNat 16 k, 0#8, 0#5, 0#3⟩
    exec .reclassQuery s = .next (State.appendAnswer answer
      (if v = 0 then
        State.setGather k { g with suspended := true, idle := idle }
          (if g.suspended = false ∧ g.ring ≠ [] then taken.dequeue p g.cls k else taken)
      else
        let g' := { g with suspended := false, cls := v, idle := idle }
        if g.ring = [] then taken.setGather k g'
        else if g.suspended = true then ((taken.enqueue p v k).setGather k g').drawPass p
        else if g.cls = v then taken.setGather k g'
        else (((taken.dequeue p g.cls k).enqueue p v k).setGather k g').drawPass p))

/-- CLOSE, idle expiry and lifetime expiry end an ACTIVE gather with outcome CLOSED, IDLE or OVERDUE: the record leaves
ACTIVE, lingers or goes FREE, the outcome is counted, and the pass that a return calls for runs (R45, R46, R48, R58, R62,
R63). -/
def Obligations.EndingsLeaveActive : Prop :=
  (∀ (s : State) (q : List Word) (k : Nat) (g : Gather), s.MayTake q → kindOf q = 4#4 → s.Accepts q →
    s.lookupGather (portOf q) (tagOf q) = some (k, g) → g.stage = .active →
    ∃ u : State, State.Ended { s with queryFifo := s.queryFifo.tail } k g .closed u ∧
      exec .closeQuery s = .next (((u.offer g.port .gathersClosed 1).passIf
        (decide (0 < (g.roster.map fun m => m.drawQueued + m.drawOut).sum)) g.port).appendAnswer
          ⟨4#4, .ok, none, BitVec.ofNat 16 k, 0#8, 0#5, 0#3⟩)) ∧
  (∀ (s : State) (k : Nat) (g : Gather) (d : Time), s.gather? k = some g → g.stage = .active → g.idle = some d →
    (s.timebase - d).toNat < 2 ^ 31 →
    ∃ u : State, s.Ended k g .idle u ∧
      exec (.idleExpiry k) s = .next ((u.offer g.port .gathersIdle 1).passIf
        (decide (0 < (g.roster.map fun m => m.drawQueued + m.drawOut).sum)) g.port)) ∧
  ∀ (s : State) (k : Nat) (g : Gather) (d : Time), s.gather? k = some g → g.stage = .active → g.lifetime = some d →
    (s.timebase - d).toNat < 2 ^ 31 →
    ∃ u : State, s.Ended k g .overdue u ∧
      exec (.lifetimeExpiry k) s = .next ((u.offer g.port .gathersOverdue 1).passIf
        (decide (0 < (g.roster.map fun m => m.drawQueued + m.drawOut).sum)) g.port)

/-- A lingering record: CLOSE is answered OK with its slot and changes nothing; its linger expiry sends it FREE, with its
roster at the free list's tail and its generation advanced, and counts nothing (R47, R48, R58). -/
def Obligations.LingeringRecordClosesAndExpires : Prop :=
  (∀ (s : State) (q : List Word) (k : Nat) (g : Gather) (o : Ending), s.MayTake q → kindOf q = 4#4 → s.Accepts q →
    s.lookupGather (portOf q) (tagOf q) = some (k, g) → g.stage = .linger o →
    exec .closeQuery s = .next (State.appendAnswer ⟨4#4, .ok, none, BitVec.ofNat 16 k, 0#8, 0#5, 0#3⟩
      { s with queryFifo := s.queryFifo.tail })) ∧
  ∀ (s : State) (k : Nat) (g : Gather) (o : Ending) (d : Time), s.gather? k = some g → g.stage = .linger o →
    g.lingerAt = some d → (s.timebase - d).toNat < 2 ^ 31 →
    ∃ t : State, s.Freed k g t ∧ exec (.lingerExpiry k) s = .next t

/-! ## Arrivals -/

/-- An ARRIVE that a window matches: the window is enabled, its scope is ANY or the port, and the token and the base agree
in every bit of the mask. The lowest-numbered such window decides: PASS, EXEMPT, the window's number, one ARRIVALS_EXEMPT,
and nothing else of the part changes (R32, R33). -/
def Obligations.ExemptArrivalPassesUncharged : Prop :=
  ∀ (s : State) (q : List Word) (i : Nat),
    let matching := fun j : Nat =>
      (s.window j).enabled = true ∧ ((s.window j).scopeAny = true ∨ (s.window j).scopePort.toNat = portOf q) ∧
        tokenOf q &&& (s.window j).mask = (s.window j).base &&& (s.window j).mask
    s.MayTake q → kindOf q = 5#4 → s.Accepts q → i < 8 → matching i → (∀ j, j < i → ¬matching j) →
    exec .arriveQuery s = .next (State.appendAnswer
      ⟨5#4, .ok, some (.pass, .exempt), BitVec.ofNat 16 i, 0#8, 0#5, 0#3⟩
      (State.offer (portOf q) .arrivalsExempt 1 { s with queryFifo := s.queryFifo.tail }))

/-- An ARRIVE that no window matches, for a key that is not indexed or for a record in LINGER: the stray or straggler verdict
of the port's profile for the port's mode, the parameter, one ARRIVALS_STRAY and the cells by the verdict; no record, no
roster and no O changes (R8, R9, R30, R38 to R41). -/
def Obligations.StrayAndStragglerFromTheTables : Prop :=
  ∀ (s : State) (q : List Word), s.MayTake q → kindOf q = 5#4 → s.Accepts q →
    s.matchingWindow (portOf q) (tokenOf q) = none →
    let p := portOf q
    let cells := (bytesOf q + 255) / 256
    let event := fun v : Verdict => match v with
      | .pass => MeterEvent.cellsPassed
      | .mark => MeterEvent.cellsMarked
      | .trim => MeterEvent.cellsTrimmed
    let counted := fun v : Verdict =>
      (State.offer p .arrivalsStray 1 { s with queryFifo := s.queryFifo.tail }).offer p (event v) cells
    (s.lookupGather p (tagOf q) = none →
      let v := (s.profileOf p).stray.get (s.port p).mode
      exec .arriveQuery s = .next ((counted v).appendAnswer ⟨5#4, .ok, some (v, .stray), 0#16, 0#8, 0#5, 0#3⟩)) ∧
    (∀ k g o, s.lookupGather p (tagOf q) = some (k, g) → g.stage = .linger o →
      let v := (s.profileOf p).straggler.get (s.port p).mode
      exec .arriveQuery s = .next ((counted v).appendAnswer
        ⟨5#4, .ok, some (v, .straggler), BitVec.ofNat 16 k, 0#8, 0#5, 0#3⟩))

/-- An ARRIVE of a member of an ACTIVE record, in the order of R85: the member handled by its phase, the idle deadline
re-armed, the completion test where the member finished, the cells counted by the verdict, the returns and the append with
their one pass, and the answer (R60, R61, R77, R79, R85, R96). -/
def Obligations.ArrivalOfMember : Prop :=
  (∀ (s : State) (q : List Word) (k : Nat) (g : Gather) (m : Member), s.MayTake q → kindOf q = 5#4 → s.Accepts q →
    s.matchingWindow (portOf q) (tokenOf q) = none → s.lookupGather (portOf q) (tagOf q) = some (k, g) →
    g.stage = .active → g.byToken (tokenOf q) = some m →
    exec .arriveQuery s = .next (State.arriveMember q k g m false { s with queryFifo := s.queryFifo.tail })) ∧
  ∀ (s : State) (q : List Word) (k : Nat) (g : Gather) (m : Member) (call : Bool), g.stage = .active →
    let p := g.port
    let pf := s.profileOf p
    let c := (bytesOf q + 255) / 256
    let h := g.handle pf s.timebase (s.port p).mode c (lastOf q) m
    let g' := { h.gather with
      idle := if pf.idleTime = 0#16 then none else some (s.timebase + BitVec.ofNat 32 pf.idleTime.toNat) }
    let u := (s.putGather k g g').giveBack p h.returned
    let event := match h.verdict with
      | .pass => MeterEvent.cellsPassed
      | .mark => MeterEvent.cellsMarked
      | .trim => MeterEvent.cellsTrimmed
    let calls := call || appends g g' || decide (0 < h.returned)
    let answer : Answer := ⟨kindOf q, .ok, some (h.verdict, .roster), BitVec.ofNat 16 k, 0#8, 0#5, 0#3⟩
    (¬(h.finished = true ∧ g'.isComplete = true) →
      s.arriveMember q k g m call = ((u.offer p event c).passIf calls p).appendAnswer answer) ∧
    (h.finished = true → g'.isComplete = true → ∃ v : State, u.Ended k g' .complete v ∧
      s.arriveMember q k g m call = ((((v.offer p .gathersComplete 1).offer p event c).passIf
        (calls || decide (0 < (g'.roster.map fun m => m.drawQueued + m.drawOut).sum)) p).appendAnswer answer))

/-- An ARRIVE for an ACTIVE record whose roster does not hold the token: with room on the roster and in the pool it joins at
the tail, not announced, with open-left A, WAITING where A is 0, and the arrival is then its own; without room it is a stray
that re-arms the idle deadline, and an empty free list raises POOL_LOW where the mark is above 0 (R39, R70, R71, R75,
R76). That a full roster with an empty free list raises it too is a reading of R76 (log 13). -/
def Obligations.ArrivalOfUnknownToken : Prop :=
  ∀ (s : State) (q : List Word) (k : Nat) (g : Gather), s.MayTake q → kindOf q = 5#4 → s.Accepts q →
    s.matchingWindow (portOf q) (tokenOf q) = none → s.lookupGather (portOf q) (tagOf q) = some (k, g) →
    g.stage = .active → g.byToken (tokenOf q) = none →
    let p := portOf q
    let pf := s.profileOf p
    let taken : State := { s with queryFifo := s.queryFifo.tail }
    (∀ e rest, g.roster.length < 256 → freeEntries s.free = e :: rest → (∀ m ∈ g.roster, m.entry ≠ e) → e ∉ g.ring →
      let m : Member :=
        { entry := e, token := tokenOf q, announced := false, expected := none
          phase := if 0 < g.allowance then .opening else .waiting, openLeft := g.allowance, drawQueued := 0, drawOut := 0
          passed := 0, trims := 0, lapses := 0, drawDeadline := none }
      let g' := { g with roster := g.roster ++ [m], ring := if g.allowance = 0 then g.ring ++ [e] else g.ring }
      ∃ free, freeEntries free = rest ∧
        exec .arriveQuery s = .next
          ((({ taken with free := free, attn := s.attnAfterTakes 1 false } : State).putGather k g g').arriveMember
            q k g' m (appends g g'))) ∧
    (256 ≤ g.roster.length ∨ freeEntries s.free = [] →
      let v := pf.stray.get (s.port p).mode
      let cells := (bytesOf q + 255) / 256
      let event := match v with
        | .pass => MeterEvent.cellsPassed
        | .mark => MeterEvent.cellsMarked
        | .trim => MeterEvent.cellsTrimmed
      let idle := if pf.idleTime = 0#16 then none else some (s.timebase + BitVec.ofNat 32 pf.idleTime.toNat)
      exec .arriveQuery s = .next ((((({ taken with
          attn := s.attnAfterTakes 0 (decide (freeEntries s.free = [])) } : State).setGather k { g with idle := idle }).offer
            p .arrivalsStray 1).offer p event cells).appendAnswer ⟨5#4, .ok, some (v, .stray), 0#16, 0#8, 0#5, 0#3⟩))

/-- An arrival of `c` cells within the allowance of an OPENING, WAITING or DRAWN member: open-left is spent first, then
draw-out; passed grows; the draw deadline follows the new draw-out; PASS in CALM and FILL, MARK in CROWD and SURGE. Without
the last flag x2 is returned and the member is re-evaluated; with it the member finishes, off the ring, and the draw-queued
and draw-out it held are returned (R78, R79, R81, R92, R96). -/
def Obligations.ChargedArrivalAndFinish : Prop :=
  ∀ (pf : Profile) (now : Time) (mode : Mode) (c : Nat) (last : Bool) (m : Member) (g : Gather),
    m.phase = .opening ∨ m.phase = .waiting ∨ m.phase = .drawn → c ≤ m.openLeft + m.drawOut →
    let x1 := min c m.openLeft
    let x2 := c - x1
    let life := if pf.drawLifetime = 0#16 then 65535 else pf.drawLifetime.toNat
    let m' := { m with
      openLeft := m.openLeft - x1
      drawOut := m.drawOut - x2
      passed := min (m.passed + c) 16777215
      drawDeadline :=
        if m.drawOut = x2 then none
        else if 0 < x2 ∧ m.drawQueued = 0 then some (now + BitVec.ofNat 32 life)
        else m.drawDeadline }
    let verdict := if mode = .calm ∨ mode = .fill then Verdict.pass else .mark
    (last = false → g.handle pf now mode c last m = ⟨(g.setMember m').reevaluate pf m.entry, x2, verdict, false⟩) ∧
    (last = true → g.handle pf now mode c last m =
      ⟨{ g.setMember { m' with
            openLeft := 0, drawQueued := 0, drawOut := 0, drawDeadline := none, phase := .finished } with
          ring := g.ring.filter (· ≠ m.entry) }, m.drawQueued + m.drawOut, verdict, true⟩)

/-- Trimmed arrivals and those of given-up members: over the limit the member forfeits open-left and returns draw-out, a
queued draw standing, and is re-evaluated; a FINISHED member's cells are trimmed and its empty packets passed or marked; a
LAPSED member is revived by cells, finished by an empty last packet, unchanged by another empty one (R80, R82, R83). -/
def Obligations.TrimmedAndLapsedArrivals : Prop :=
  ∀ (pf : Profile) (now : Time) (mode : Mode) (c : Nat) (last : Bool) (m : Member) (g : Gather),
    let verdict := if mode = .calm ∨ mode = .fill then Verdict.pass else .mark
    let trims := min (m.trims + 1) 255
    (m.phase = .opening ∨ m.phase = .waiting ∨ m.phase = .drawn → m.openLeft + m.drawOut < c →
      g.handle pf now mode c last m =
        ⟨(g.setMember { m with openLeft := 0, drawOut := 0, trims := trims, drawDeadline := none }).reevaluate pf m.entry,
          m.drawOut, .trim, false⟩) ∧
    (m.phase = .finished → g.handle pf now mode c last m =
      if c = 0 then ⟨g, 0, verdict, false⟩ else ⟨g.setMember { m with trims := trims }, 0, .trim, false⟩) ∧
    (m.phase = .lapsed → 0 < c → g.handle pf now mode c last m =
      ⟨(g.setMember { m with trims := trims, lapses := 0, phase := .drawn }).reevaluate pf m.entry, 0, .trim, false⟩) ∧
    (m.phase = .lapsed → c = 0 → last = false → g.handle pf now mode c last m = ⟨g, 0, verdict, false⟩) ∧
    (m.phase = .lapsed → c = 0 → last = true → g.handle pf now mode c last m =
      ⟨{ g.setMember { m with
            openLeft := 0, drawQueued := 0, drawOut := 0, drawDeadline := none, phase := .finished } with
          ring := g.ring.filter (· ≠ m.entry) }, m.drawQueued + m.drawOut, verdict, true⟩)

/-- When a member wants more (R86), and what its re-evaluation does: a member off the ring that wants more joins its tail and
becomes WAITING; one that does not is OPENING or DRAWN; a member on the ring, FINISHED or LAPSED is unchanged (R87). -/
def Obligations.WantingMoreAndReevaluation : Prop :=
  ∀ (pf : Profile) (m : Member),
    let mark := if pf.refill.toNat < pf.quantum.toNat then pf.refill.toNat else pf.quantum.toNat - 1
    let wants := m.phase ≠ .finished ∧ m.phase ≠ .lapsed ∧ m.openLeft = 0 ∧ m.drawQueued = 0 ∧ m.drawOut ≤ mark ∧
      (m.expected = none ∨ (∃ e, m.expected = some e ∧ m.passed + m.drawOut < e) ∨ m.drawOut = 0)
    (m.wantsMore pf = true ↔ wants) ∧
    ∀ (g : Gather) (before behind : List Member), g.stage = .active → g.roster = before ++ m :: behind →
      (g.roster.map Member.entry).Nodup →
      (m.entry ∈ g.ring ∨ m.phase = .finished ∨ m.phase = .lapsed → g.reevaluate pf m.entry = g) ∧
      (m.entry ∉ g.ring → wants → g.reevaluate pf m.entry = { g with
        roster := before ++ { m with phase := .waiting } :: behind
        ring := g.ring ++ [m.entry] }) ∧
      (m.entry ∉ g.ring → m.phase ≠ .finished → m.phase ≠ .lapsed → ¬wants → g.reevaluate pf m.entry = { g with
        roster := before ++ { m with phase := if 0 < m.openLeft then .opening else .drawn } :: behind })

/-- The completion test: every member FINISHED or LAPSED and at least as many members as the threshold, the announced count
brought into 1 to 256; an empty roster never meets it (R59). -/
def Obligations.CompletionTest : Prop :=
  (∀ g : Gather, g.isComplete = true ↔
    (∀ m ∈ g.roster, m.phase = .finished ∨ m.phase = .lapsed) ∧ max 1 (min g.announced 256) ≤ g.roster.length) ∧
  (∀ g : Gather, g.announced = 0 → g.threshold = 1) ∧ (∀ g : Gather, 256 ≤ g.announced → g.threshold = 256) ∧
  ∀ g : Gather, g.roster = [] → g.isComplete = false

/-! ## Draws -/

/-- A changed record's place on the class queues: it is appended at the tail of the queue of its class when it comes to
belong on one, removed when it ceases to, the others in their order, and keeps its place otherwise; and from a state in
which the queues agree with the records the result agrees again (R123, R125, R126). -/
def Obligations.ClassQueuePlace : Prop :=
  ∀ (s : State) (k : Nat) (old new : Gather), s.gather? k = some old → new.port = old.port →
    let t := s.putGather k old new
    let stays := old.queued = true ∧ new.queued = true ∧ old.cls = new.cls
    t.slot k = ⟨(s.slot k).generation, some new⟩ ∧ (∀ j, j ≠ k → t.slot j = s.slot j) ∧
    (∀ p, p ≠ old.port → t.port p = s.port p) ∧
    { t.port old.port with queues := (s.port old.port).queues } = s.port old.port ∧
    t = { s with slots := t.slots, ports := t.ports } ∧
    (stays → ∀ c, (t.port old.port).queue c = (s.port old.port).queue c) ∧
    (¬stays → ∀ c, (t.port old.port).queue c =
      (if old.queued = true ∧ c = old.cls then ((s.port old.port).queue c).filter (· ≠ k)
        else (s.port old.port).queue c) ++ (if new.queued = true ∧ c = new.cls then [k] else [])) ∧
    (s.QueuesAgree → t.QueuesAgree)

/-- The departure test (R137), and the departure of a valid head entry when the transmitter's choice falls on an emission:
the entry leaves the head, one credit is taken, the emission is sent, the member's queued cells become draw-out under a fresh
deadline, it is re-evaluated, and the freed place is handed (R24, R25, R91, R138). That DRAW_EMISSION out of its turn, and
STALE_DISCARD at a valid head, leave the state unchanged is the model's choice: their events cannot occur there (log 5). -/
def Obligations.ValidEntryDeparts : Prop :=
  (∀ (s : State) (e : Emission) (g : Gather) (m : Member), s.validMember e = some (g, m) ↔
    s.gather? e.slot = some g ∧ (s.slot e.slot).generation = e.generation ∧ g.stage = .active ∧ g.port = e.port ∧
      g.tag = e.tag ∧ g.member? e.entry = some m ∧ m.token = e.token ∧ m.drawQueued = e.cells) ∧
  ∀ (s : State) (e : Emission) (rest : List Emission) (g : Gather) (m : Member), s.link = .up → 0 < s.credit →
    s.emq = e :: rest → s.validMember e = some (g, m) →
    let pf := s.profileOf e.port
    let life := if pf.drawLifetime = 0#16 then 65535 else pf.drawLifetime.toNat
    let m' := { m with
      drawOut := m.drawOut + m.drawQueued
      drawQueued := 0
      drawDeadline := some (s.timebase + BitVec.ofNat 32 life) }
    let g' := (g.setMember m').reevaluate pf e.entry
    (s.nextTx = .emission ∨ s.answerFifo = [] → exec .drawEmission s = .next
      ((State.putGather e.slot g g'
        { s with emq := rest, credit := s.credit - 1, lklTx := e.words, nextTx := .answer }).handPlace
          e.port (appends g g'))) ∧
    (s.nextTx = .answer → s.answerFifo ≠ [] → exec .drawEmission s = .next s) ∧
    exec .staleDiscard s = .next s

/-- A stale head entry is discarded whatever the transmitter's choice: the entry leaves, and nothing else changes but by the
handing of the freed place (R139). That DRAW_EMISSION at a stale head leaves the state unchanged is the model's choice: its
event cannot occur there (log 5). The handing: with no blocked port none is made; else the first blocked port after the
pointer is handed the place, the pointer moves to it, its flag is cleared and it runs a pass, the member's port, where it
is called for and another, after it (R138, R142). The passes of an event at several ports: each port called for runs one, in
round-robin order after the pointer, which stays (R128). The serving after a link reset: each port called for or blocked runs
one pass, in that order; a blocked one has its flag cleared before it, and the pointer moves to it, and so ends at the last
blocked port served (R144). -/
def Obligations.StaleEntryDiscardedAndPlaceHanded : Prop :=
  (∀ (s : State) (e : Emission) (rest : List Emission), s.link = .up → 0 < s.credit → s.emq = e :: rest →
    s.validMember e = none →
    exec .staleDiscard s = .next (State.handPlace 0 false { s with emq := rest }) ∧
      exec .drawEmission s = .next s) ∧
  (∀ (s : State) (p : Nat) (call : Bool),
    ((∀ h, h < 48 → (s.port h).blocked = false) → s.handPlace p call = s.passIf call p) ∧
    ∀ h, s.pointer < 48 → h < 48 → (s.port h).blocked = true →
      (∀ j, j < 48 → (s.port j).blocked = true → (h + 47 - s.pointer) % 48 ≤ (j + 47 - s.pointer) % 48) →
      s.handPlace p call =
        ((State.setPort h { s.port h with blocked := false } { s with pointer := h }).drawPass h).passIf
          (call && decide (p ≠ h)) p) ∧
  ∀ (s : State) (called : List Nat), s.pointer < 48 →
    let sooner := fun p q : Nat => (p + 47 - s.pointer) % 48 < (q + 47 - s.pointer) % 48
    (∃ order : List Nat, order.Pairwise sooner ∧ (∀ p, p ∈ order ↔ p < 48 ∧ p ∈ called) ∧
      s.passes called = order.foldl (fun t p => t.drawPass p) s ∧ (s.passes called).pointer = s.pointer) ∧
    ∃ order : List Nat, order.Pairwise sooner ∧
      (∀ p, p ∈ order ↔ p < 48 ∧ (p ∈ called ∨ (s.port p).blocked = true)) ∧
      s.serveAll called = order.foldl (fun t p =>
        if (s.port p).blocked = true then
          (State.setPort p { t.port p with blocked := false } { t with pointer := p }).drawPass p
        else t.drawPass p) s ∧
      (s.serveAll called).pointer = ((order.filter fun p => (s.port p).blocked).getLast?).getD s.pointer

/-- One step of a draw pass, and the pass that follows it: nothing where no eligible class has a queued gather; nothing where
O + d is above F; the port blocked where the Emission Queue is full; else the issue of d = min(Q, need) cells to the head
member, with O, the member, the ring, the queue, the Emission Queue and the two meter offers, and the pass goes on from there
(R89, R90, R129 to R133, R143). -/
def Obligations.DrawPassStep : Prop :=
  (∀ (s : State) (p : Nat), (∀ c, 1 ≤ c → c ≤ 7 → (s.port p).effFloor < c → (s.port p).queue c = []) →
    s.drawPass p = s) ∧
  ∀ (s : State) (p c k : Nat) (g : Gather) (m : Member), s.HeadDraw p c k g m →
    let pf := s.profileOf p
    let need := match m.expected with
      | none => pf.quantum.toNat
      | some e => if m.passed + m.drawOut + 1 ≤ e then e - m.passed - m.drawOut else pf.quantum.toNat
    let d := min pf.quantum.toNat need
    let pt := s.port p
    (pt.flight < pt.outstanding + d → s.drawPass p = s) ∧
    (pt.outstanding + d ≤ pt.flight → 256 ≤ s.emq.length → s.drawPass p = s.setPort p { pt with blocked := true }) ∧
    (pt.outstanding + d ≤ pt.flight → s.emq.length < 256 →
      let ring := g.ring.tail
      let queue := if ring = [] then (pt.queue c).tail else (pt.queue c).tail ++ [k]
      let g' := { g.setMember { m with drawQueued := d, phase := .drawn, drawDeadline := none } with ring := ring }
      let u := (s.setPort p { pt.setQueue c queue with outstanding := pt.outstanding + d, blocked := false }).setGather k g'
      let v : State := { u with emq := s.emq ++ [⟨p, g.tag, m.token, d, k, (s.slot k).generation, m.entry⟩] }
      s.drawPass p = ((v.offer p .drawsIssued 1).offer p .drawCells d).drawPass p)

/-- How a draw pass ends: with no draw to try, at the flight limit, or at a full Emission Queue with the port blocked; and
what it leaves unchanged: all but the draw state of its port, the rosters' queued draws and the wait rings, the tail of the
Emission Queue, the meters and METER_OVERFLOW (R130, R131, R134). Of each record, the members drawn are those of the entries
appended to the queue for its slot, in that order: they leave the head of the wait ring, and, where the roster holds no entry
twice, each has the draw size queued, is DRAWN and has no deadline, and in nothing else does any member change (R89, R90,
R132). -/
def Obligations.DrawPassEndsAndChangesOnlyDraws : Prop :=
  ∀ (s : State) (p : Nat),
    let t := s.drawPass p
    let quantum := (s.profileOf p).quantum.toNat
    let size := fun m : Member => min quantum (match m.expected with
      | none => quantum
      | some e => if m.passed + m.drawOut + 1 ≤ e then e - m.passed - m.drawOut else quantum)
    (t.headDraw p = none ∨ ∃ d, t.headDraw p = some d ∧
      ((t.port p).flight < (t.port p).outstanding + d.cells ∨
        ((t.port p).outstanding + d.cells ≤ (t.port p).flight ∧ 256 ≤ t.emq.length ∧ (t.port p).blocked = true))) ∧
    t = { s with slots := t.slots, ports := t.ports, emq := t.emq, meters := t.meters, attn := t.attn } ∧
    (∀ j, j ≠ p → t.port j = s.port j) ∧ (t.port p).SamePressure (s.port p) ∧
    (t.attn = s.attn ∨ t.attn = s.attn ||| 0x40#7) ∧
    ∃ new : List Emission, t.emq = s.emq ++ new ∧ (∀ e ∈ new, e.port = p ∧ (s.gather? e.slot).isSome = true) ∧
      ∀ k, (t.slot k).generation = (s.slot k).generation ∧
        (s.gather? k = none → t.gather? k = none) ∧
        ∀ g, s.gather? k = some g →
          let drawn := (new.filter fun e => decide (e.slot = k)).map Emission.entry
          ∃ g', t.gather? k = some g' ∧ { g' with roster := g.roster, ring := g.ring } = g ∧
            g.ring = drawn ++ g'.ring ∧ g'.roster.map Member.entry = g.roster.map Member.entry ∧
            ((g.roster.map Member.entry).Nodup → g'.roster = g.roster.map fun m =>
              if m.entry ∈ drawn then { m with drawQueued := size m, phase := .drawn, drawDeadline := none } else m)

/-- ANSWER: the answer at the head of the Answer FIFO is sent and removed, and the next choice is an emission, where no valid
entry may depart or the choice falls on an answer; where a valid entry may depart and the choice is an emission, the answer
waits (R18, R25). That a stale head does not make an emission ready is a reading of R25 (log 9). -/
def Obligations.AnswerSentInTurn : Prop :=
  ∀ (s : State) (a : Answer) (rest : List Answer), s.link = .up → s.answerFifo = a :: rest →
    let ready := 0 < s.credit ∧ ∃ e, s.emq.head? = some e ∧ (s.validMember e).isSome = true
    (s.nextTx = .answer ∨ ¬ready →
      exec .answer s = .next { s with answerFifo := rest, lklTx := a.words, nextTx := .emission }) ∧
    (s.nextTx = .emission → ready → exec .answer s = .next s)

/-! ## Port pressure and time -/

/-- REPORT at an enabled port, step by step: staleness and its deadline, the mode raised to its target from the effective
marks, the activity test, F stepped by the mode and brought into its bounds with the flags, the effective floor, the SURGE
entry with its source, offer and attention, and the pass of a notice; a REPORT of a port of 48 or above, or of a disabled
port, changes nothing (R22, R99 to R104, R111 to R114, R116). -/
def Obligations.ReportMovesModeAndFlight : Prop :=
  (∀ (s : State) (port : BitVec 8) (depth : BitVec 16), 48 ≤ port.toNat ∨ (s.port port.toNat).enabled = false →
    exec (.report port depth) s = .next s) ∧
  ∀ (s : State) (port : BitVec 8) (depth : BitVec 16), s.link = .up → port.toNat < 48 →
    (s.port port.toNat).enabled = true →
    let p := port.toNat
    let pt := s.port p
    let pf := s.profileOf p
    let now := s.timebase
    let d := depth.toNat
    let m1e := pf.m1.toNat
    let m2e := max pf.m2.toNat m1e
    let m3e := max pf.m3.toNat m2e
    let target := if m3e ≤ d then Mode.surge else if m2e ≤ d then .crowd else if m1e ≤ d then .fill else .calm
    let raised := pt.mode.level < target.level
    let mode := if raised then target else pt.mode
    let mark := match mode with | .calm => 0 | .fill => m1e | .crowd => m2e | .surge => m3e
    let full := match mode with
      | .calm => 0 | .fill => pf.dwellFill.toNat | .crowd => pf.dwellCrowd.toNat | .surge => pf.dwellSurge.toNat
    let resumed := match pt.dwell with
      | .suspended r => if pt.stale then Timer.armed (now + BitVec.ofNat 32 r) else pt.dwell
      | _ => pt.dwell
    let armed := raised ∨ (mode ≠ .calm ∧ mark - pf.hysteresis.toNat ≤ d)
    let stepped : Int := match mode with
      | .calm => if pt.flight < pt.outstanding + pf.quantum.toNat then pt.flight + pf.sUp.toNat else pt.flight
      | .fill => pt.flight
      | .crowd => pt.flight - pf.sDown.toNat
      | .surge => pf.fMin.toNat
    let fMin := pf.fMin.toNat
    let fMaxe := max pf.fMax.toNat fMin
    let new := { pt with
      mode := mode
      staleAt := if pf.staleTime = 0#16 then none else some (now + BitVec.ofNat 32 pf.staleTime.toNat)
      stale := false
      dwell := if armed then .armed (now + BitVec.ofNat 32 full) else resumed
      flight := if stepped < fMin then fMin else if (fMaxe : Int) < stepped then fMaxe else stepped.toNat
      atFloor := pt.atFloor || decide (stepped < fMin) || decide (mode = .surge)
      atCeiling := pt.atCeiling || (decide ((fMin : Int) ≤ stepped) && decide ((fMaxe : Int) < stepped))
      effFloor := max pt.adminFloor.toNat (pf.floors.get mode).toNat }
    let u := s.setPort p new
    let entered := if pt.mode ≠ .surge ∧ mode = .surge then
      let v := (u.mapMeters (Meter.surgeEntered p)).offer p .surgeEntries 1
      { v with attn := v.attn ||| 0x08#7 } else u
    exec (.report port depth) s =
      .next (entered.passIf (decide (pt.flight < new.flight ∨ new.effFloor < pt.effFloor)) p)

/-- The expiries of a port. Dwell: the mode falls one level, the dwell timer is armed for a mode above CALM, the effective
floor is recomputed, leaving SURGE acts on the meters before the pass of a fallen floor, F stands. Stale: the port is STALE
without a stale deadline, its dwell timer suspended with its remaining time, and REPORT_STALE is raised (R13, R105, R108,
R113, R116). -/
def Obligations.PortExpiries : Prop :=
  (∀ (s : State) (p : Nat) (at_ : Time), p < 48 → (s.port p).dwell = .armed at_ → (s.timebase - at_).toNat < 2 ^ 31 →
    let pt := s.port p
    let pf := s.profileOf p
    let mode := match pt.mode with | .calm => Mode.calm | .fill => .calm | .crowd => .fill | .surge => .crowd
    let full := match mode with
      | .calm => 0 | .fill => pf.dwellFill.toNat | .crowd => pf.dwellCrowd.toNat | .surge => pf.dwellSurge.toNat
    let new := { pt with
      mode := mode
      dwell := if mode = .calm then .absent else .armed (s.timebase + BitVec.ofNat 32 full)
      effFloor := max pt.adminFloor.toNat (pf.floors.get mode).toNat }
    let u := s.setPort p new
    exec (.dwellExpiry p) s = .next ((if pt.mode = .surge then u.mapMeters (Meter.surgeExited p) else u).passIf
      (decide (new.effFloor < pt.effFloor)) p)) ∧
  ∀ (s : State) (p : Nat) (at_ : Time), p < 48 → (s.port p).staleAt = some at_ → (s.timebase - at_).toNat < 2 ^ 31 →
    let pt := s.port p
    let suspended := match pt.dwell with
      | .armed d => Timer.suspended (if (s.timebase - d).toNat < 2 ^ 31 then 0 else (d - s.timebase).toNat)
      | other => other
    exec (.staleExpiry p) s = .next (State.setPort p { pt with stale := true, staleAt := none, dwell := suspended }
      { s with attn := s.attn ||| 0x04#7 })

/-- A draw deadline expiry reclaims the draw: draw-out is returned, lapses grows, DRAWS_RECLAIMED is offered; below the lapse
limit the member is re-evaluated; at the limit it is LAPSED, off the ring, and the completion test is made; then the pass
(R60, R87, R93, R94, R96). -/
def Obligations.DrawDeadlineReclaims : Prop :=
  ∀ (s : State) (k i : Nat) (g : Gather) (m : Member) (d : Time), s.gather? k = some g → g.roster[i]? = some m →
    g.stage = .active → m.drawDeadline = some d → (s.timebase - d).toNat < 2 ^ 31 →
    let p := g.port
    let pf := s.profileOf p
    let lapsed := max 1 pf.lapseLimit.toNat ≤ m.lapses + 1
    let m' := { m with drawOut := 0, drawDeadline := none, lapses := m.lapses + 1 }
    let g' := if lapsed then
        { g.setMember { m' with openLeft := 0, drawQueued := 0, phase := .lapsed } with
          ring := g.ring.filter (· ≠ m.entry) }
      else (g.setMember m').reevaluate pf m.entry
    let u := ((s.putGather k g g').giveBack p m.drawOut).offer p .drawsReclaimed 1
    let calls := appends g g' || decide (0 < m.drawOut)
    (¬(lapsed ∧ g'.isComplete = true) → exec (.drawDeadlineExpiry k i) s = .next (u.passIf calls p)) ∧
    (lapsed → g'.isComplete = true → ∃ v : State, u.Ended k g' .complete v ∧
      exec (.drawDeadlineExpiry k i) s = .next ((v.offer p .gathersComplete 1).passIf
        (calls || decide (0 < (g'.roster.map fun m => m.drawQueued + m.drawOut).sum)) p))

/-- TIMEBASE_ADVANCE adds 1 to the timebase modulo 2^32 and changes nothing else, where no expiry is still to be taken 1
µs or more after its deadline (R10, R12); where one is, the timebase does not advance: that it waits for the expiry is the
model's form of R12's bound (log 5, log 7). After part reset no deadline stands, and every step keeps it so that each
deadline is ahead, by at most the longest duration, or was reached at most 1 µs ago (R11, R12). A deadline armed with a
duration of 1 to 65,535,000 µs is ahead at every point before it and reached at it and up to 2^31 − 1 µs after it,
whatever the wrap (R10, R11). An expiry of any kind whose deadline is still ahead, or absent, changes nothing: that a
command whose event cannot occur leaves the state is the model's choice (log 5). -/
def Obligations.TimebaseAndDeadlines : Prop :=
  (∀ s : State, (∀ d, s.Awaits d → s.timebase = d ∨ 2 ^ 31 ≤ (s.timebase - d).toNat) →
    exec .timebaseAdvance s = .next { s with timebase := s.timebase + 1#32 }) ∧
  (∀ (s : State) (d : Time), s.Awaits d → s.timebase ≠ d → (s.timebase - d).toNat < 2 ^ 31 →
    exec .timebaseAdvance s = .next s) ∧
  ((∀ d, ¬State.reset.Awaits d) ∧ State.reset.Punctual ∧
    (∀ s t : State, s.Punctual → step s = .next t → t.Punctual) ∧
    ∀ (s : State) (d : Time), s.Punctual → s.Awaits d →
      (s.timebase - d).toNat ≤ 1 ∨ (2 ^ 31 ≤ (s.timebase - d).toNat ∧ (d - s.timebase).toNat ≤ 65535000)) ∧
  (∀ (now : Time) (n j : Nat), 1 ≤ n → n ≤ 65535000 → j < 2 ^ 31 →
    (reached (now + BitVec.ofNat 32 j) (after now n) = true ↔ n ≤ j) ∧
    reached (after now n + BitVec.ofNat 32 j) (after now n) = true) ∧
  ∀ s : State,
    let ahead := fun deadline : Option Time => ∀ d, deadline = some d → 2 ^ 31 ≤ (s.timebase - d).toNat
    (∀ (k : Nat) (g : Gather), s.gather? k = some g →
      (ahead g.idle → exec (.idleExpiry k) s = .next s) ∧
      (ahead g.lifetime → exec (.lifetimeExpiry k) s = .next s) ∧
      (ahead g.lingerAt → exec (.lingerExpiry k) s = .next s) ∧
      ∀ (i : Nat) (m : Member), g.roster[i]? = some m → ahead m.drawDeadline →
        exec (.drawDeadlineExpiry k i) s = .next s) ∧
    ∀ p : Nat, (ahead (s.port p).staleAt → exec (.staleExpiry p) s = .next s) ∧
      ((∀ d, (s.port p).dwell = .armed d → 2 ^ 31 ≤ (s.timebase - d).toNat) → exec (.dwellExpiry p) s = .next s)

/-! ## Host commands -/

/-- ENABLE_PORT: a disabled port is enabled with its pressure state set afresh, its profile number, admin floor and draw
state standing, and leaves a SURGE it held; an enabled port is unchanged; a port of 48 or above is refused PORT_RANGE. The
command shows in COMMAND and COMMAND_RESULT (R98, R116, R158, R159, R173). -/
def Obligations.EnablePort : Prop :=
  ∀ (s : State) (port : BitVec 8) (tag : Tag),
    let p := port.toNat
    let pt := s.port p
    let pf := s.profileOf p
    let fMin := pf.fMin.toNat
    let u := s.setPort p { pt with
      enabled := true
      mode := .calm
      dwell := .absent
      staleAt := if pf.staleTime = 0#16 then none else some (s.timebase + BitVec.ofNat 32 pf.staleTime.toNat)
      stale := false
      flight := min (max pf.fInit.toNat fMin) (max pf.fMax.toNat fMin)
      atFloor := false
      atCeiling := false
      effFloor := max pt.adminFloor.toNat pf.floors.calm.toNat }
    let done := fun (r : Result) (v : State) => { v with
      command := 0x01#8 ++ port ++ tag, result := ⟨s.result.sequence + 1#8, 1#8, r⟩ }
    (48 ≤ p → exec (.enablePort port tag) s = .next (done .portRange s)) ∧
    (p < 48 → pt.enabled = true → exec (.enablePort port tag) s = .next (done .ok s)) ∧
    (p < 48 → pt.enabled = false → exec (.enablePort port tag) s =
      .next (done .ok (if pt.mode = .surge then u.mapMeters (Meter.surgeExited p) else u)))

/-- DISABLE_PORT: at an enabled port, from a safe state, every record of the port goes FREE and no other changes, O is 0,
the queues are empty, the blocked flag, the timers and STALE are cleared, mode, F, flags, floors and profile stand, the
rosters freed are free again, and the Emission Queue, the meters and the attention summary stand; a disabled port is
unchanged; a port of 48 or above is refused (R67, R98, R145, R158, R160, R173). -/
def Obligations.DisablePort : Prop :=
  ∀ (s : State) (port : BitVec 8) (tag : Tag),
    let p := port.toNat
    let done := fun (r : Result) (v : State) => { v with
      command := 0x02#8 ++ port ++ tag, result := ⟨s.result.sequence + 1#8, 2#8, r⟩ }
    (48 ≤ p → exec (.disablePort port tag) s = .next (done .portRange s)) ∧
    (p < 48 → (s.port p).enabled = false → exec (.disablePort port tag) s = .next (done .ok s)) ∧
    (p < 48 → (s.port p).enabled = true → s.Safe → ∃ t : State, exec (.disablePort port tag) s = .next (done .ok t) ∧
      t = { s with slots := t.slots, ports := t.ports, free := t.free } ∧
      (∀ k g, s.gather? k = some g → g.port = p → t.slot k = ⟨(s.slot k).generation + 1#8, none⟩) ∧
      (∀ k, (∀ g, s.gather? k = some g → g.port ≠ p) → t.slot k = s.slot k) ∧
      freeEntries t.free = freeEntries s.free ++
        (s.records.filter fun r => decide (r.2.port = p)).flatMap (fun r => r.2.roster.map Member.entry) ∧
      (∀ j, j ≠ p → t.port j = s.port j) ∧
      t.port p = { s.port p with
        enabled := false, dwell := .absent, staleAt := none, stale := false, blocked := false, outstanding := 0
        queues := [] })

/-- RETIRE_GATHER: the range check, then the lookup, then a LINGER record goes FREE, or an ACTIVE record leaves ACTIVE and
goes FREE with its draws returned, no outcome counted, and the port's pass runs on a return (R65, R158, R162, R173). -/
def Obligations.RetireGather : Prop :=
  ∀ (s : State) (port : BitVec 8) (tag : Tag),
    let p := port.toNat
    let done := fun (r : Result) (v : State) => { v with
      command := 0x03#8 ++ port ++ tag, result := ⟨s.result.sequence + 1#8, 3#8, r⟩ }
    (48 ≤ p → exec (.retireGather port tag) s = .next (done .portRange s)) ∧
    (p < 48 → s.lookupGather p tag = none → exec (.retireGather port tag) s = .next (done .noGather s)) ∧
    (∀ k g o, p < 48 → s.lookupGather p tag = some (k, g) → g.stage = .linger o → ∃ t : State, s.Freed k g t ∧
      exec (.retireGather port tag) s = .next (done .ok t)) ∧
    (∀ k g, p < 48 → s.lookupGather p tag = some (k, g) → g.stage = .active →
      let owed : Nat := (g.roster.map fun m => m.drawQueued + m.drawOut).sum
      ∃ u : State,
      u = { s with slots := u.slots, ports := u.ports, free := u.free } ∧
      u.slot k = ⟨(s.slot k).generation + 1#8, none⟩ ∧ (∀ j, j ≠ k → u.slot j = s.slot j) ∧
      freeEntries u.free = freeEntries s.free ++ g.roster.map Member.entry ∧
      (∀ j, j ≠ p → u.port j = s.port j) ∧
      (∀ c, (u.port p).queue c =
        if g.queued = true ∧ c = g.cls then ((s.port p).queue c).filter (· ≠ k) else (s.port p).queue c) ∧
      { u.port p with queues := (s.port p).queues } =
        { s.port p with outstanding := (s.port p).outstanding - owed } ∧
      exec (.retireGather port tag) s = .next (done .ok (u.passIf (decide (0 < owed)) p)))

/-- PURGE_ALL, from a safe state: every record goes FREE, the pool's 65,536 entries are free with the rosters at the list's
tail in slot order, every O is 0 and every queue empty; the Emission Queue, the ports' settings, pressure and blocked flags,
and all else stand (R66, R146, R163, R173). -/
def Obligations.PurgeAll : Prop :=
  ∀ (s : State) (port : BitVec 8) (tag : Tag), s.Safe → ∃ t : State,
    exec (.purgeAll port tag) s = .next t ∧
    t = { s with
      slots := t.slots
      ports := t.ports
      free := t.free
      command := 0x04#8 ++ port ++ tag
      result := ⟨s.result.sequence + 1#8, 4#8, .ok⟩ } ∧
    (∀ k, t.slot k = ⟨if (s.gather? k).isSome then (s.slot k).generation + 1#8 else (s.slot k).generation, none⟩) ∧
    freeEntries t.free = freeEntries s.free ++ s.heldEntries ∧ freeCount t.free = 65536 ∧
    (∀ p, p < 48 → t.port p = { s.port p with outstanding := 0, queues := [] }) ∧
    ∀ p, 48 ≤ p → t.port p = s.port p

/-- METERS_START reloads each meter whose reload control is START and turns on each whose enable source is START;
METERS_STOP turns off each whose disable source is STOP, but for those whose enable source is ALWAYS; both reach all sixteen
meters, change no other field, raise nothing, and complete OK (R166, R167, R173). The SURGE entry source of a port turns on
the meters whose port field names the port and whose enable source is SURGE_ENTRY, and its exit source turns off those whose
disable source is SURGE_EXIT, but for those whose enable source is ALWAYS; a meter of ALL takes neither, and neither changes
anything else (R166, R168). -/
def Obligations.MeterCommandsReachAllMeters : Prop :=
  (∀ (s : State) (port : BitVec 8) (tag : Tag),
    (∃ t : State, exec (.metersStart port tag) s = .next t ∧
      t = { s with
        meters := t.meters
        command := 0x05#8 ++ port ++ tag
        result := ⟨s.result.sequence + 1#8, 5#8, .ok⟩ } ∧
      ∀ i, t.meter i = if i < 16 then { s.meter i with
          count := if (s.meter i).reloadControl = .start then (s.meter i).reload else (s.meter i).count
          counting := (s.meter i).counting || decide ((s.meter i).enableSource = .start) }
        else s.meter i) ∧
    ∃ t : State, exec (.metersStop port tag) s = .next t ∧
      t = { s with
        meters := t.meters
        command := 0x06#8 ++ port ++ tag
        result := ⟨s.result.sequence + 1#8, 6#8, .ok⟩ } ∧
      ∀ i, t.meter i = if i < 16 ∧ (s.meter i).disableSource = .stop ∧ (s.meter i).enableSource ≠ .always then
          { s.meter i with counting := false }
        else s.meter i) ∧
  ∀ (s : State) (p : Nat), p < 48 →
    let t := s.mapMeters (Meter.surgeEntered p)
    let u := s.mapMeters (Meter.surgeExited p)
    t = { s with meters := t.meters } ∧ u = { s with meters := u.meters } ∧
    ∀ i, (t.meter i =
        if i < 16 ∧ (s.meter i).port.toNat = p ∧ (s.meter i).enableSource = .surgeEntry then
          { s.meter i with counting := true }
        else s.meter i) ∧
      (u.meter i =
        if i < 16 ∧ (s.meter i).port.toNat = p ∧ (s.meter i).disableSource = .surgeExit ∧
            (s.meter i).enableSource ≠ .always then
          { s.meter i with counting := false }
        else s.meter i) ∧
      ((s.meter i).port = 63#6 → t.meter i = s.meter i ∧ u.meter i = s.meter i)

/-! ## Tables and registers -/

/-- A write of COMMAND is the command that its code names, and a code outside 0x01 to 0x06 changes no state but COMMAND and
COMMAND_RESULT, whose sequence count advances (R173). -/
def Obligations.CommandWordNamesTheCommand : Prop :=
  (∀ (s : State) (code port : BitVec 8) (tag : Tag), hostWrite 1#4 0xF#4 (code ++ port ++ tag) s =
    match code.toNat with
    | 1 => .enablePort port tag
    | 2 => .disablePort port tag
    | 3 => .retireGather port tag
    | 4 => .purgeAll port tag
    | 5 => .metersStart port tag
    | 6 => .metersStop port tag
    | _ => .badCommand code port tag) ∧
  ∀ (s : State) (code port : BitVec 8) (tag : Tag), code = 0#8 ∨ 6#8 < code →
    exec (.badCommand code port tag) s = .next { s with
      command := code ++ port ++ tag, result := ⟨s.result.sequence + 1#8, code, .badCommand⟩ }

/-- PROFILE_WRITE: the word's fields are stored and the word field of TABLE_SELECT advances; a write of word 4, which holds
the bounds, brings F of each enabled port that names the profile into them, with the flags, and passes run at the ports
whose F rose; any other word changes nothing else (R154, R174, R175). -/
def Obligations.ProfileWriteStoresAndClamps : Prop :=
  ∀ (s : State) (n w : Nat) (value : Word), s.select.target = .profile n w →
    let pf := (s.profileAt n).store w value
    ∃ u : State,
      u = { s with profiles := u.profiles, select := { s.select with word := s.select.word + 1#8 } } ∧
      u.profileAt n = pf ∧ (∀ j, j ≠ n → u.profileAt j = s.profileAt j) ∧
      (w ≠ 4 → exec (.profileWrite value) s = .next u) ∧
      (w = 4 → ∃ (v : State) (called : List Nat),
        v = { u with ports := v.ports } ∧
        (∀ p, v.port p =
          if p < 48 ∧ (s.port p).enabled = true ∧ (s.port p).profile.toNat = n then { s.port p with
            flight := min (max (s.port p).flight pf.fMin.toNat) (max pf.fMax.toNat pf.fMin.toNat)
            atFloor := (s.port p).atFloor || decide ((s.port p).flight < pf.fMin.toNat)
            atCeiling := (s.port p).atCeiling || decide (max pf.fMax.toNat pf.fMin.toNat < (s.port p).flight) }
          else s.port p) ∧
        (∀ p, p ∈ called ↔ (s.port p).flight < (v.port p).flight) ∧
        exec (.profileWrite value) s = .next (v.passes called))

/-- The words of a profile: each field reads in the bits its layout gives it, with zeros in the bits of no field and in the
words after word 12; a write of one word leaves every other word; and the word written reads back as it is stored: words
without a replaced field as written in the bits they hold, a written 0 as 1 where the field cannot hold 0, a share above 16
as 16, a verdict code 3 as 2 (R149 to R154, R174, R175). -/
def Obligations.ProfileWordsReadBack : Prop :=
  ∀ (pf : Profile) (v : Word),
    let one := fun (w : Nat) (x : BitVec w) => if x = 0#w then 1#w else x
    let share := fun x : BitVec 5 => if 16#5 < x then 16#5 else x
    let verdict := fun x : BitVec 2 => if x = 3#2 then 2#2 else x
    let code := fun x : Verdict => match x with
      | .pass => 0#2
      | .mark => 1#2
      | .trim => 2#2
    (pf.word 0 = pf.m1 ++ pf.m2 ∧ pf.word 1 = pf.m3 ++ pf.hysteresis ∧ pf.word 2 = pf.dwellFill ++ pf.dwellCrowd ∧
      pf.word 3 = pf.dwellSurge ++ pf.staleTime ∧ pf.word 4 = 0#2 ++ pf.fMin ++ 0#2 ++ pf.fMax ∧
      pf.word 5 = 0#1 ++ pf.floors.calm ++ 0#1 ++ pf.floors.fill ++ 0#1 ++ pf.floors.crowd ++ 0#1 ++ pf.floors.surge ++
        0#2 ++ pf.fInit ∧
      pf.word 6 = 0#4 ++ pf.sUp ++ 0#4 ++ pf.sDown ∧ pf.word 7 = pf.quantum ++ pf.refill ++ pf.drawLifetime ∧
      pf.word 8 = 0#3 ++ pf.shares.calm ++ 0#3 ++ pf.shares.fill ++ 0#3 ++ pf.shares.crowd ++ 0#3 ++ pf.shares.surge ∧
      pf.word 9 = pf.caps.calm ++ pf.caps.fill ++ pf.caps.crowd ++ pf.caps.surge ∧
      pf.word 10 = pf.idleTime ++ pf.lingerTime ∧
      pf.word 11 = pf.maxLifetime ++ 0#1 ++ pf.lapseLimit ++ 0#1 ++ pf.defaultClass ++ 0#8 ∧
      pf.word 12 = 0#16 ++ code pf.stray.calm ++ code pf.stray.fill ++ code pf.stray.crowd ++ code pf.stray.surge ++
        code pf.straggler.calm ++ code pf.straggler.fill ++ code pf.straggler.crowd ++ code pf.straggler.surge ∧
      ∀ i, 12 < i → pf.word i = 0#32) ∧
    (∀ i j, i ≠ j → (pf.store i v).word j = pf.word j) ∧
    (∀ i, i = 0 ∨ i = 1 ∨ i = 9 ∨ i = 10 → (pf.store i v).word i = v) ∧
    (pf.store 2 v).word 2 = one 16 ((v >>> 16).setWidth 16) ++ one 16 (v.setWidth 16) ∧
    (pf.store 3 v).word 3 = one 16 ((v >>> 16).setWidth 16) ++ v.setWidth 16 ∧
    (pf.store 4 v).word 4 = 0#2 ++ one 14 ((v >>> 16).setWidth 14) ++ 0#2 ++ one 14 (v.setWidth 14) ∧
    (pf.store 5 v).word 5 = (v &&& 0x77770000#32) ||| (one 14 (v.setWidth 14)).setWidth 32 ∧
    (pf.store 6 v).word 6 = 0#4 ++ one 12 ((v >>> 16).setWidth 12) ++ 0#4 ++ one 12 (v.setWidth 12) ∧
    (pf.store 7 v).word 7 = one 8 ((v >>> 24).setWidth 8) ++ v.setWidth 24 ∧
    (pf.store 8 v).word 8 = 0#3 ++ share ((v >>> 24).setWidth 5) ++ 0#3 ++ share ((v >>> 16).setWidth 5) ++
      0#3 ++ share ((v >>> 8).setWidth 5) ++ 0#3 ++ share (v.setWidth 5) ∧
    (pf.store 11 v).word 11 = (v >>> 16).setWidth 16 ++ 0#1 ++ one 3 ((v >>> 12).setWidth 3) ++ 0#1 ++
      one 3 ((v >>> 8).setWidth 3) ++ 0#8 ∧
    (pf.store 12 v).word 12 = 0#16 ++ verdict ((v >>> 14).setWidth 2) ++ verdict ((v >>> 12).setWidth 2) ++
      verdict ((v >>> 10).setWidth 2) ++ verdict ((v >>> 8).setWidth 2) ++ verdict ((v >>> 6).setWidth 2) ++
      verdict ((v >>> 4).setWidth 2) ++ verdict ((v >>> 2).setWidth 2) ++ verdict (v.setWidth 2)

/-- PROFILE_NUMBER_WRITE stores the number and, on an enabled port, brings F into the new profile's bounds with the flags,
with a pass where F rose; ADMIN_FLOOR_WRITE stores the floor and recomputes the effective floor, with a pass on an enabled
port where it fell; nothing else changes but the word field of TABLE_SELECT (R114, R115, R157, R174). -/
def Obligations.PortSettingWrites : Prop :=
  (∀ (s : State) (p : Nat) (value : Word), s.select.target = .port p 0 →
    let pt := s.port p
    let n : BitVec 3 := value.setWidth 3
    let pf := s.profileAt n.toNat
    let fMaxe := max pf.fMax.toNat pf.fMin.toNat
    let new := if pt.enabled then { pt with
        profile := n
        flight := min (max pt.flight pf.fMin.toNat) fMaxe
        atFloor := pt.atFloor || decide (pt.flight < pf.fMin.toNat)
        atCeiling := pt.atCeiling || decide (fMaxe < pt.flight) }
      else { pt with profile := n }
    exec (.profileNumberWrite value) s = .next (State.passIf (decide (pt.flight < new.flight)) p
      (State.setPort p new { s with select := { s.select with word := s.select.word + 1#8 } }))) ∧
  ∀ (s : State) (p : Nat) (value : Word), s.select.target = .port p 1 →
    let pt := s.port p
    let floor : BitVec 3 := value.setWidth 3
    let new := { pt with
      adminFloor := floor
      effFloor := max floor.toNat ((s.profileOf p).floors.get pt.mode).toNat }
    exec (.adminFloorWrite value) s = .next (State.passIf (decide (pt.enabled = true ∧ new.effFloor < pt.effFloor)) p
      (State.setPort p new { s with select := { s.select with word := s.select.word + 1#8 } }))

/-- EXEMPT_WRITE stores the fields of its word as written; METER_CONFIG_WRITE stores the configuration, a reload control of
3 as NEVER, and sets counting from the enable source; METER_COUNT_WRITE puts the value into that part of the count and of
the reload value; METER_FLAG_CLEAR clears the overflow flag; nothing else changes but the word field of TABLE_SELECT (R31,
R34, R166, R170, R174, R175). -/
def Obligations.WindowAndMeterWrites : Prop :=
  ∀ (s : State) (i : Nat) (v : Word),
    let next : State := { s with select := { s.select with word := s.select.word + 1#8 } }
    let window := fun x : Window => { next with windows := Table.set Window.reset s.windows i x }
    let meter := fun x : Meter => { next with meters := Table.set Meter.reset s.meters i x }
    (s.select.target = .exempt i 0 → exec (.exemptWrite v) s = .next (window { s.window i with
      enabled := v.getLsbD 31, scopeAny := v.getLsbD 30, scopePort := v.setWidth 8 })) ∧
    (s.select.target = .exempt i 1 → exec (.exemptWrite v) s = .next (window { s.window i with base := v.setWidth 24 })) ∧
    (s.select.target = .exempt i 2 → exec (.exemptWrite v) s = .next (window { s.window i with mask := v.setWidth 24 })) ∧
    (s.select.target = .meter i 0 → ∃ m : Meter, exec (.meterConfigWrite v) s = .next (meter m) ∧
      m.port = v.setWidth 6 ∧ m.event.code = (v >>> 8).setWidth 4 ∧ m.enableSource.code = (v >>> 16).setWidth 2 ∧
      m.disableSource.code = (v >>> 20).setWidth 2 ∧
      m.reloadControl.code = (if (v >>> 24).setWidth 2 = 3#2 then 0#2 else (v >>> 24).setWidth 2) ∧
      m.overflowAttention = v.getLsbD 28 ∧ m.counting = decide (m.enableSource = .always) ∧
      m.count = (s.meter i).count ∧ m.reload = (s.meter i).reload ∧ m.overflowed = (s.meter i).overflowed) ∧
    (s.select.target = .meter i 1 → ∃ m : Meter, exec (.meterCountWrite v) s = .next (meter m) ∧
      m.count.setWidth 32 = v ∧ m.reload.setWidth 32 = v ∧ m.count >>> 32 = (s.meter i).count >>> 32 ∧
      m.reload >>> 32 = (s.meter i).reload >>> 32 ∧
      { m with count := 0#40, reload := 0#40 } = { s.meter i with count := 0#40, reload := 0#40 }) ∧
    (s.select.target = .meter i 2 → ∃ m : Meter, exec (.meterCountWrite v) s = .next (meter m) ∧
      (m.count >>> 32).setWidth 8 = v.setWidth 8 ∧ (m.reload >>> 32).setWidth 8 = v.setWidth 8 ∧
      m.count.setWidth 32 = (s.meter i).count.setWidth 32 ∧ m.reload.setWidth 32 = (s.meter i).reload.setWidth 32 ∧
      { m with count := 0#40, reload := 0#40 } = { s.meter i with count := 0#40, reload := 0#40 }) ∧
    (s.select.target = .meter i 5 → v.getLsbD 0 = true →
      exec (.meterFlagClear v) s = .next (meter { s.meter i with overflowed := false }))

/-- A read of TABLE_WINDOW gives the selected word, changes nothing of the part and advances the word field, wrapping from
255 to 0; a read of a port's status word shows mode, STALE, the flags, the effective floor and F, and then clears both flags
(R118, R174, R175). TABLE_SELECT's fields name the table, the entry and the word. A word of a table code of 6 or 7, of an
entry beyond its table (every ROSTER entry number lies in its table) or beyond the entry's last word is no table word and
reads as 0; and the words of the PORT, GATHER, ROSTER, EXEMPT and METER tables read their fields in the bits their layouts
give them, an absent field, the words of a FREE slot but for its generation, and a position at or beyond a roster's size
as 0 (R42, R74, R124, R148, R174, R175; PROFILE words: `Obligations.ProfileWordsReadBack`). The other words of the window
read as their registers, and 8 to 15 as 0 (R172, R173, R174, R176, R177, R178). -/
def Obligations.TableReads : Prop :=
  (∀ s : State, (∀ p, s.select.target ≠ .port p 2) → exec .tableWindowRead s = .next { s with
    readData := s.tableWord s.select.target
    select := { s.select with word := s.select.word + 1#8 } }) ∧
  (∀ (s : State) (p : Nat), s.select.target = .port p 2 → (s.port p).flight < 2 ^ 14 → (s.port p).effFloor < 8 →
    ∃ w : Word,
      w.toNat = (s.port p).flight * 2 ^ 16 + (s.port p).effFloor * 2 ^ 8 + (s.port p).atCeiling.toNat * 16 +
        (s.port p).atFloor.toNat * 8 + (s.port p).stale.toNat * 4 + (s.port p).mode.level ∧
      exec .portStatusRead s = .next (State.setPort p { s.port p with atFloor := false, atCeiling := false } { s with
        readData := w
        select := { s.select with word := s.select.word + 1#8 } })) ∧
  (∀ sel : TableSelect,
    let table := sel.table.toNat
    let entry := sel.entry.toNat
    let word := sel.word.toNat
    (table = 0 → entry < 8 → word ≤ 12 → sel.target = .profile entry word) ∧
    (table = 1 → entry < 48 → word ≤ 3 → sel.target = .port entry word) ∧
    (table = 2 → entry < 8192 → word ≤ 5 → sel.target = .gather entry word) ∧
    (table = 3 → word ≤ 4 → sel.target = .roster (entry / 256) (entry % 256) word) ∧
    (table = 4 → entry < 8 → word ≤ 2 → sel.target = .exempt entry word) ∧
    (table = 5 → entry < 16 → word ≤ 5 → sel.target = .meter entry word)) ∧
  (∀ (s : State) (sel : TableSelect),
    let entry := sel.entry.toNat
    let word := sel.word.toNat
    let beyond := fun (table entries lastWord : Nat) => sel.table.toNat = table ∧ (entries ≤ entry ∨ lastWord < word)
    6 ≤ sel.table.toNat ∨ beyond 0 8 12 ∨ beyond 1 48 3 ∨ beyond 2 8192 5 ∨ beyond 3 2097152 4 ∨ beyond 4 8 2 ∨
      beyond 5 16 5 → sel.target = .absent ∧ s.tableWord sel.target = 0#32) ∧
  (∀ s : State,
    let reads := fun (table entry word value : Nat) => ∀ sel : TableSelect, sel.table.toNat = table →
      sel.entry.toNat = entry → sel.word.toNat = word → (s.tableWord sel.target).toNat = value
    let point := fun deadline : Option Time => match deadline with
      | none => 0
      | some d => d.toNat
    (∀ n w, n < 8 → w ≤ 12 → reads 0 n w ((s.profileAt n).word w).toNat) ∧
    (∀ p, p < 48 → (s.port p).outstanding < 2 ^ 16 →
      let pt := s.port p
      let pending := fun c : Nat => if pt.queue c = [] then 0 else 2 ^ (16 + c)
      reads 1 p 0 (pt.enabled.toNat * 2 ^ 31 + pt.profile.toNat) ∧ reads 1 p 1 pt.adminFloor.toNat ∧
      reads 1 p 3 (pt.blocked.toNat * 2 ^ 31 + pending 7 + pending 6 + pending 5 + pending 4 + pending 3 + pending 2 +
        pending 1 + pt.outstanding)) ∧
    (∀ k w, k < 8192 → w ≤ 5 → s.gather? k = none →
      reads 2 k w (if w = 0 then (s.slot k).generation.toNat * 2 ^ 16 else 0)) ∧
    (∀ k g, k < 8192 → s.gather? k = some g → g.cls < 8 → g.port < 256 → g.allowance < 256 → g.roster.length < 512 →
      g.announced < 4096 →
      let outcome := match g.stage with
        | .active => 0
        | .linger .complete => 1
        | .linger .closed => 2
        | .linger .idle => 3
        | .linger .overdue => 4
      reads 2 k 0 ((s.slot k).generation.toNat * 2 ^ 16 + g.cls * 2 ^ 12 + outcome * 2 ^ 8 + g.suspended.toNat * 16 +
        if g.stage = .active then 1 else 2) ∧
      reads 2 k 1 (g.port * 2 ^ 16 + g.tag.toNat) ∧
      reads 2 k 2 (g.allowance * 2 ^ 24 + g.roster.length * 2 ^ 15 + g.announced) ∧
      reads 2 k 3 (point g.idle) ∧ reads 2 k 4 (point g.lifetime) ∧ reads 2 k 5 (point g.lingerAt)) ∧
    (∀ k i w, k < 8192 → i < 256 → w ≤ 4 → (∀ g, s.gather? k = some g → g.roster.length ≤ i) →
      reads 3 (k * 256 + i) w 0) ∧
    (∀ k i g m, k < 8192 → i < 256 → s.gather? k = some g → g.roster[i]? = some m → m.trims < 256 → m.openLeft < 256 →
      m.drawOut < 512 → m.lapses < 8 → m.drawQueued < 256 → m.passed < 2 ^ 24 → (∀ e, m.expected = some e → e < 2 ^ 16) →
      let phase := match m.phase with
        | .opening => 1
        | .waiting => 2
        | .drawn => 3
        | .finished => 4
        | .lapsed => 5
      reads 3 (k * 256 + i) 0 (m.announced.toNat * 2 ^ 31 + phase * 2 ^ 24 + m.token.toNat) ∧
      reads 3 (k * 256 + i) 1 (m.trims * 2 ^ 24 + m.openLeft * 2 ^ 16 + m.expected.getD 0) ∧
      reads 3 (k * 256 + i) 2 (m.drawOut * 2 ^ 16 + m.lapses * 2 ^ 12 + m.drawQueued) ∧
      reads 3 (k * 256 + i) 3 m.passed ∧ reads 3 (k * 256 + i) 4 (point m.drawDeadline)) ∧
    (∀ i, i < 8 →
      let x := s.window i
      reads 4 i 0 (x.enabled.toNat * 2 ^ 31 + x.scopeAny.toNat * 2 ^ 30 + x.scopePort.toNat) ∧
      reads 4 i 1 x.base.toNat ∧ reads 4 i 2 x.mask.toNat) ∧
    ∀ i, i < 16 →
      let m := s.meter i
      let reload := match m.reloadControl with
        | .never => 0
        | .overflow => 1
        | .start => 2
      let disable := match m.disableSource with
        | .never => 0
        | .overflow => 1
        | .stop => 2
        | .surgeExit => 3
      let enable := match m.enableSource with
        | .never => 0
        | .always => 1
        | .start => 2
        | .surgeEntry => 3
      let event := match m.event with
        | .cellsPassed => 0
        | .cellsMarked => 1
        | .cellsTrimmed => 2
        | .arrivalsStray => 3
        | .arrivalsExempt => 4
        | .drawsIssued => 5
        | .drawCells => 6
        | .drawsReclaimed => 7
        | .gathersOpened => 8
        | .gathersComplete => 9
        | .gathersClosed => 10
        | .gathersIdle => 11
        | .gathersOverdue => 12
        | .opensRefused => 13
        | .surgeEntries => 14
        | .queryFaults => 15
      reads 5 i 0 (m.overflowAttention.toNat * 2 ^ 28 + reload * 2 ^ 24 + disable * 2 ^ 20 + enable * 2 ^ 16 +
        event * 2 ^ 8 + m.port.toNat) ∧
      reads 5 i 1 (m.count.toNat % 2 ^ 32) ∧ reads 5 i 2 (m.count.toNat / 2 ^ 32) ∧
      reads 5 i 3 (m.reload.toNat % 2 ^ 32) ∧ reads 5 i 4 (m.reload.toNat / 2 ^ 32) ∧
      reads 5 i 5 (m.counting.toNat * 2 + m.overflowed.toNat)) ∧
  ∀ s : State,
    let code := match s.result.result with
      | .ok => 0
      | .portRange => 2
      | .noGather => 4
      | .badCommand => 8
    s.readRegister 0#4 = 0x48160001#32 ∧ s.readRegister 1#4 = s.command ∧
    (s.readRegister 2#4).toNat = s.result.sequence.toNat * 2 ^ 24 + s.result.code.toNat * 2 ^ 16 + code ∧
    (s.readRegister 3#4).toNat = s.select.table.toNat * 2 ^ 29 + s.select.entry.toNat * 2 ^ 8 + s.select.word.toNat ∧
    (s.readRegister 5#4).toNat = s.attn.toNat ∧ (s.readRegister 6#4).toNat = s.attnEnable.toNat ∧
    (s.poolLowMark ≤ 65536 → (s.readRegister 7#4).toNat = s.poolLowMark) ∧
    ∀ i : BitVec 4, 8#4 ≤ i → s.readRegister i = 0#32

/-- The registers' writes: a one clears an attention bit and a zero leaves it; ATTN_ENABLE and POOL_LOW_MARK hold what is
written, the mark at most 65,536; TABLE_SELECT stores its three fields; a write of fewer than four bytes, and one of
TABLE_WINDOW where the selected word takes none, change no part of it, the latter advancing the word field; and ATTN_N is
driven while a source has both bits set (R172, R174, R176 to R178). Which command a host access is: a write of fewer than
four bytes is a REGISTER_WRITE of any word; a whole word is the row of its register (COMMAND:
`Obligations.CommandWordNamesTheCommand`), at TABLE_WINDOW the row of the selected word, and a REGISTER_WRITE where neither
has a row; a read of TABLE_WINDOW is PORT_STATUS_READ exactly where a port's word 2 is selected (R172, R174, R175). That
these are the rows of those accesses is read from the rules (log 15). -/
def Obligations.RegisterWrites : Prop :=
  (∀ (s : State) (v : Word), ∃ t : State, exec (.attnSummaryWrite v) s = .next t ∧ t = { s with attn := t.attn } ∧
    ∀ i, i < 7 → t.attn.getLsbD i = (s.attn.getLsbD i && !v.getLsbD i)) ∧
  (∀ (s : State) (v : Word), exec (.attnEnableWrite v) s = .next { s with attnEnable := v.setWidth 7 }) ∧
  (∀ (s : State) (v : Word), exec (.poolLowMarkWrite v) s =
    .next { s with poolLowMark := min (v.toNat % 2 ^ 17) 65536 }) ∧
  (∀ (s : State) (v : Word), exec (.registerWrite 3#4 0xF#4 v) s = .next { s with
    select := ⟨(v >>> 29).setWidth 3, (v >>> 8).setWidth 21, v.setWidth 8⟩ }) ∧
  (∀ (s : State) (i lanes : BitVec 4) (v : Word), lanes ≠ 0xF#4 → exec (.registerWrite i lanes v) s = .next s) ∧
  (∀ (s : State) (v : Word), hostWrite 4#4 0xF#4 v s = .registerWrite 4#4 0xF#4 v →
    exec (.registerWrite 4#4 0xF#4 v) s = .next { s with select := { s.select with word := s.select.word + 1#8 } }) ∧
  (∀ (s : State) (i : BitVec 4) (v : Word), i = 0#4 ∨ i = 2#4 ∨ 8#4 ≤ i → exec (.registerWrite i 0xF#4 v) s = .next s) ∧
  (∀ s : State, s.attnDriven = true ↔ ∃ i, i < 7 ∧ s.attn.getLsbD i = true ∧ s.attnEnable.getLsbD i = true) ∧
  (∀ (s : State) (i lanes : BitVec 4) (v : Word), lanes ≠ 0xF#4 → hostWrite i lanes v s = .registerWrite i lanes v) ∧
  (∀ (s : State) (v : Word), hostWrite 5#4 0xF#4 v s = .attnSummaryWrite v ∧ hostWrite 6#4 0xF#4 v s = .attnEnableWrite v ∧
    hostWrite 7#4 0xF#4 v s = .poolLowMarkWrite v) ∧
  (∀ (s : State) (i : BitVec 4) (v : Word), i = 0#4 ∨ i = 2#4 ∨ i = 3#4 ∨ 8#4 ≤ i →
    hostWrite i 0xF#4 v s = .registerWrite i 0xF#4 v) ∧
  (∀ (s : State) (v : Word),
    let row := hostWrite 4#4 0xF#4 v s
    let ignored := Instr.registerWrite 4#4 0xF#4 v
    (∀ n w, s.select.target = .profile n w → row = .profileWrite v) ∧
    (∀ p w, s.select.target = .port p w →
      row = if w = 0 then .profileNumberWrite v else if w = 1 then .adminFloorWrite v else ignored) ∧
    (∀ k w, s.select.target = .gather k w → row = ignored) ∧
    (∀ k i w, s.select.target = .roster k i w → row = ignored) ∧
    (∀ i w, s.select.target = .exempt i w → row = .exemptWrite v) ∧
    (∀ i w, s.select.target = .meter i w → row =
      if w = 0 then .meterConfigWrite v else if w = 1 ∨ w = 2 then .meterCountWrite v
      else if w = 5 ∧ v.getLsbD 0 = true then .meterFlagClear v else ignored) ∧
    (s.select.target = .absent → row = ignored)) ∧
  ∀ s : State, ((∃ p, s.select.target = .port p 2) → hostRead s = .portStatusRead) ∧
    ((∀ p, s.select.target ≠ .port p 2) → hostRead s = .tableWindowRead)

/-- An offer of a meter event reaches the meters that are counting, name the event and hold its port field: each adds the
increment; a sum above 2^40 − 1 overflows it, to the sum less 2^40 or to the reload value, sets its flag, raises
METER_OVERFLOW where that is enabled, and turns it off where its disable source is OVERFLOW and its enable source not
ALWAYS. An event is offered for its port and for ALL (R165, R169). -/
def Obligations.MeterTakesOffer : Prop :=
  (∀ (s : State) (sel : BitVec 6) (ev : MeterEvent) (inc : Nat), inc ≤ 255 →
    let t := s.offerTo sel ev inc
    let takes := fun m : Meter => m.counting = true ∧ m.event = ev ∧ m.port = sel
    t = { s with meters := t.meters, attn := t.attn } ∧
    (∀ i, (i < 16 ∧ takes (s.meter i) →
        (s.meter i).count.toNat + inc ≤ 2 ^ 40 - 1 →
          ∃ c : BitVec 40, c.toNat = (s.meter i).count.toNat + inc ∧ t.meter i = { s.meter i with count := c }) ∧
      (i < 16 ∧ takes (s.meter i) → 2 ^ 40 - 1 < (s.meter i).count.toNat + inc →
        ∃ c : BitVec 40, c.toNat = (s.meter i).count.toNat + inc - 2 ^ 40 ∧ t.meter i = { s.meter i with
          count := if (s.meter i).reloadControl = .overflow then (s.meter i).reload else c
          overflowed := true
          counting := !(decide ((s.meter i).disableSource = .overflow ∧ (s.meter i).enableSource ≠ .always)) }) ∧
      (¬(i < 16 ∧ takes (s.meter i)) → t.meter i = s.meter i)) ∧
    t.attn = if ∃ i, i < 16 ∧ takes (s.meter i) ∧ 2 ^ 40 - 1 < (s.meter i).count.toNat + inc ∧
        (s.meter i).overflowAttention = true then s.attn ||| 0x40#7 else s.attn) ∧
  ∀ (s : State) (p : Nat) (ev : MeterEvent) (inc : Nat),
    s.offer p ev inc = (s.offerTo (BitVec.ofNat 6 p) ev inc).offerTo 63#6 ev inc
end

