-- ==== Sys2Proof/Laws/Tables.lean ====
section
/-! SUPPORT. The laws of canonical tables: what an entry reads as after a write, that every write keeps the canonical form,
and that canonical tables with equal entries are equal. -/

namespace Sys2Proof.Machine

variable {α : Type}

@[simp] theorem Table.get_nil (d : α) (k : Nat) : Table.get d [] k = d := rfl

theorem Table.get_cons (d : α) (j : Nat) (v : α) (t : Table α) (k : Nat) :
    Table.get d ((j, v) :: t) k = if j = k then v else Table.get d t k := rfl

@[simp] theorem Table.get_erase_self (d : α) (t : Table α) (k : Nat) : Table.get d (Table.erase t k) k = d := by
  induction t with
  | nil => rfl
  | cons e t ih => by_cases h : e.1 = k <;> simp_all [Table.erase, Table.get]

theorem Table.get_erase_ne (d : α) (t : Table α) {k j : Nat} (h : j ≠ k) :
    Table.get d (Table.erase t k) j = Table.get d t j := by
  induction t with
  | nil => rfl
  | cons e t ih =>
    by_cases h' : e.1 = k
    · have : e.1 ≠ j := fun he => h (he ▸ h')
      simp_all [Table.erase, Table.get]
    · simp_all [Table.erase, Table.get]

theorem Table.get_insert_self (d : α) (t : Table α) (k : Nat) (v : α) (h : ∀ e ∈ t, e.1 ≠ k) :
    Table.get d (Table.insert t k v) k = v := by
  induction t with
  | nil => simp [Table.insert, Table.get]
  | cons e t ih =>
    have h1 : e.1 ≠ k := h e (by simp)
    have h2 := ih fun x hx => h x (by simp [hx])
    simp only [Table.insert]
    split <;> simp [Table.get, h1, h2]

theorem Table.get_insert_ne (d : α) (t : Table α) {k j : Nat} (v : α) (h : j ≠ k) :
    Table.get d (Table.insert t k v) j = Table.get d t j := by
  induction t with
  | nil => simp [Table.insert, Table.get, Ne.symm h]
  | cons e t ih =>
    simp only [Table.insert]
    split <;> simp [Table.get, Ne.symm h, ih]

theorem Table.not_mem_erase (t : Table α) (k : Nat) : ∀ e ∈ Table.erase t k, e.1 ≠ k := by
  simp [Table.erase]

/-- What an entry reads as after a write, in any table: the written entry its new value, every other its old one. -/
theorem Table.get_set [DecidableEq α] (d : α) (t : Table α) (k j : Nat) (v : α) :
    Table.get d (Table.set d t k v) j = if j = k then v else Table.get d t j := by
  by_cases hv : v = d <;> by_cases h : j = k
  · subst h; simp [Table.set, hv]
  · simp [Table.set, hv, h, Table.get_erase_ne]
  · subst h; simp [Table.set, hv, Table.get_insert_self d _ _ v (Table.not_mem_erase t j)]
  · simp [Table.set, hv, h, Table.get_insert_ne, Table.get_erase_ne]

@[simp] theorem Table.get_set_self [DecidableEq α] (d : α) (t : Table α) (k : Nat) (v : α) :
    Table.get d (Table.set d t k v) k = v := by simp [Table.get_set]

theorem Table.get_set_ne [DecidableEq α] (d : α) (t : Table α) {k j : Nat} (v : α) (h : j ≠ k) :
    Table.get d (Table.set d t k v) j = Table.get d t j := by simp [Table.get_set, h]

/-! ## The canonical form -/

theorem Table.wf_nil (d : α) : Table.wf d ([] : Table α) := ⟨List.Pairwise.nil, fun _ h => nomatch h⟩

theorem Table.wf_erase (d : α) (t : Table α) (k : Nat) (h : Table.wf d t) : Table.wf d (Table.erase t k) :=
  ⟨h.1.sublist List.filter_sublist, fun e he => h.2 e (List.mem_of_mem_filter he)⟩

theorem Table.mem_insert (t : Table α) (k : Nat) (v : α) (e : Nat × α) :
    e ∈ Table.insert t k v ↔ e = (k, v) ∨ e ∈ t := by
  induction t with
  | nil => simp [Table.insert]
  | cons x t ih =>
    simp only [Table.insert]
    split
    · simp
    · simp only [List.mem_cons, ih]; tauto

theorem Table.pairwise_insert (t : Table α) (k : Nat) (v : α) (hk : ∀ e ∈ t, e.1 ≠ k)
    (h : t.Pairwise fun a b => a.1 < b.1) : (Table.insert t k v).Pairwise fun a b => a.1 < b.1 := by
  induction t with
  | nil => simp [Table.insert]
  | cons x t ih =>
    rw [List.pairwise_cons] at h
    simp only [Table.insert]
    split
    · rename_i hlt
      refine List.pairwise_cons.2 ⟨fun e he => ?_, List.pairwise_cons.2 h⟩
      rcases List.mem_cons.1 he with rfl | he
      · exact hlt
      · exact Nat.lt_trans hlt (h.1 e he)
    · rename_i hlt
      refine List.pairwise_cons.2 ⟨fun e he => ?_, ih (fun e he => hk e (by simp [he])) h.2⟩
      rcases (Table.mem_insert t k v e).1 he with rfl | he
      · have := hk x (by simp); simp only at *; omega
      · exact h.1 e he

/-- A write keeps the canonical form. -/
theorem Table.wf_set [DecidableEq α] (d : α) (t : Table α) (k : Nat) (v : α) (h : Table.wf d t) :
    Table.wf d (Table.set d t k v) := by
  have he := Table.wf_erase d t k h
  unfold Table.set
  split
  · exact he
  · rename_i hv
    refine ⟨Table.pairwise_insert _ k v (Table.not_mem_erase t k) he.1, fun e hm => ?_⟩
    rcases (Table.mem_insert _ k v e).1 hm with rfl | hm
    · exact hv
    · exact he.2 e hm

/-- An entry of a table after a write is the written one or an old one. -/
theorem Table.mem_set [DecidableEq α] (d : α) (t : Table α) (k : Nat) (v : α) (e : Nat × α)
    (h : e ∈ Table.set d t k v) : e = (k, v) ∨ e ∈ t := by
  unfold Table.set at h
  split at h
  · exact .inr (List.mem_of_mem_filter h)
  · rcases (Table.mem_insert _ k v e).1 h with rfl | h
    · exact .inl rfl
    · exact .inr (List.mem_of_mem_filter h)

theorem Table.get_of_mem (d : α) (t : Table α) (h : t.Pairwise fun a b => a.1 < b.1) {e : Nat × α} (he : e ∈ t) :
    Table.get d t e.1 = e.2 := by
  induction t with
  | nil => simp at he
  | cons x t ih =>
    rw [List.pairwise_cons] at h
    rcases List.mem_cons.1 he with rfl | he
    · simp [Table.get]
    · have := h.1 e he
      simp [Table.get, Nat.ne_of_lt this, ih h.2 he]

/-- A number whose entry is not the part reset value is listed, with that entry. -/
theorem Table.mem_of_get_ne (d : α) (t : Table α) (k : Nat) (h : Table.get d t k ≠ d) :
    (k, Table.get d t k) ∈ t := by
  induction t with
  | nil => simp at h
  | cons x t ih =>
    by_cases hx : x.1 = k
    · subst hx; simp [Table.get]
    · simp only [Table.get, if_neg hx] at h ⊢
      exact List.mem_cons_of_mem _ (ih h)

theorem Table.mem_keys (t : Table α) (k : Nat) : k ∈ t.keys ↔ ∃ v, (k, v) ∈ t := by
  simp [Table.keys]

/-- In a canonical table the listed numbers are those whose entries are not the part reset value. -/
theorem Table.mem_keys_iff (d : α) (t : Table α) (h : Table.wf d t) (k : Nat) :
    k ∈ t.keys ↔ Table.get d t k ≠ d := by
  rw [Table.mem_keys]
  constructor
  · rintro ⟨v, hv⟩
    rw [Table.get_of_mem d t h.1 hv]
    exact h.2 _ hv
  · exact fun hk => ⟨_, Table.mem_of_get_ne d t k hk⟩

theorem Table.get_of_lt (d : α) (t : Table α) (k : Nat) (h : ∀ e ∈ t, k < e.1) : Table.get d t k = d := by
  induction t with
  | nil => rfl
  | cons x t ih =>
    have h1 := h x (by simp)
    simp [Table.get, Nat.ne_of_gt h1, ih fun e he => h e (by simp [he])]

/-- Canonical tables with equal entries are equal. -/
theorem Table.ext_of_get (d : α) : ∀ t u : Table α, Table.wf d t → Table.wf d u →
    (∀ k, Table.get d t k = Table.get d u k) → t = u
  | [], [], _, _, _ => rfl
  | [], y :: u, _, hu, h => by
    have := h y.1
    simp only [Table.get, ite_true] at this
    exact absurd this.symm (hu.2 y (by simp))
  | x :: t, [], ht, _, h => by
    have := h x.1
    simp only [Table.get, ite_true] at this
    exact absurd this (ht.2 x (by simp))
  | x :: t, y :: u, ht, hu, h => by
    have htp := List.pairwise_cons.1 ht.1
    have hup := List.pairwise_cons.1 hu.1
    have hkey : x.1 = y.1 := by
      rcases Nat.lt_trichotomy x.1 y.1 with hlt | heq | hgt
      · have := h x.1
        simp only [Table.get, ite_true, if_neg (Nat.ne_of_gt hlt)] at this
        rw [Table.get_of_lt d u x.1 fun e he => Nat.lt_trans hlt (hup.1 e he)] at this
        exact absurd this (ht.2 x (by simp))
      · exact heq
      · have := h y.1
        simp only [Table.get, ite_true, if_neg (Nat.ne_of_gt hgt)] at this
        rw [Table.get_of_lt d t y.1 fun e he => Nat.lt_trans hgt (htp.1 e he)] at this
        exact absurd this.symm (hu.2 y (by simp))
    have hval : x.2 = y.2 := by have := h x.1; simpa [Table.get, hkey] using this
    have hxy : x = y := Prod.ext hkey hval
    subst hxy
    have htu := Table.ext_of_get d t u ⟨htp.2, fun e he => ht.2 e (by simp [he])⟩
      ⟨hup.2, fun e he => hu.2 e (by simp [he])⟩ (fun k => by
        rcases Nat.lt_trichotomy x.1 k with hlt | heq | hgt
        · have := h k; simpa [Table.get, Nat.ne_of_lt hlt] using this
        · subst heq; rw [Table.get_of_lt d t _ htp.1, Table.get_of_lt d u _ hup.1]
        · have := h k; simpa [Table.get, Nat.ne_of_gt hgt] using this)
    rw [htu]

/-- A write of the value an entry holds changes nothing in a canonical table. -/
theorem Table.set_get [DecidableEq α] (d : α) (t : Table α) (k : Nat) (h : Table.wf d t) :
    Table.set d t k (Table.get d t k) = t :=
  Table.ext_of_get d _ _ (Table.wf_set d t k _ h) h fun j => by
    rw [Table.get_set]; split <;> simp_all

theorem Table.erase_insert [DecidableEq α] (t : Table α) (k : Nat) (v : α) (h : ∀ e ∈ t, e.1 ≠ k) :
    Table.erase (Table.insert t k v) k = t := by
  induction t with
  | nil => simp [Table.insert, Table.erase]
  | cons x t ih =>
    have h1 : x.1 ≠ k := h x (by simp)
    have h2 : ∀ e ∈ t, e.1 ≠ k := fun e he => h e (by simp [he])
    have h3 : t.filter (fun e => decide (e.1 ≠ k)) = t :=
      List.filter_eq_self.2 fun e he => decide_eq_true (h2 e he)
    simp only [Table.insert]
    split
    · simp only [Table.erase, List.filter_cons, h3]; simp [h1]
    · have h4 := ih h2
      simp only [Table.erase] at h4
      simp only [Table.erase, List.filter_cons, h4]; simp [h1]

/-- Of two writes of one entry the second stands, in any table. -/
theorem Table.set_set [DecidableEq α] (d : α) (t : Table α) (k : Nat) (v w : α) :
    Table.set d (Table.set d t k v) k w = Table.set d t k w := by
  have he : Table.erase (Table.set d t k v) k = Table.erase t k := by
    unfold Table.set
    split
    · simp [Table.erase]
    · exact Table.erase_insert _ k v (Table.not_mem_erase t k)
  unfold Table.set at he ⊢
  rw [he]

end Sys2Proof.Machine
end

