-- ==== Sys2Proof/Laws/State.lean ====
section
/-! SUPPORT. The small laws of the named updates of the state: every field that an update leaves reads as before (true by
rfl), and the entry it writes reads as written. -/

namespace Sys2Proof.Machine

variable (s : State)

/-! ## The fields an update leaves -/

@[simp] theorem State.raise_timebase (src : AttnSource) : (s.raise src).timebase = s.timebase := rfl
@[simp] theorem State.raise_link (src : AttnSource) : (s.raise src).link = s.link := rfl
@[simp] theorem State.raise_queryFifo (src : AttnSource) : (s.raise src).queryFifo = s.queryFifo := rfl
@[simp] theorem State.raise_answerFifo (src : AttnSource) : (s.raise src).answerFifo = s.answerFifo := rfl
@[simp] theorem State.raise_credit (src : AttnSource) : (s.raise src).credit = s.credit := rfl
@[simp] theorem State.raise_nextTx (src : AttnSource) : (s.raise src).nextTx = s.nextTx := rfl
@[simp] theorem State.raise_lklTx (src : AttnSource) : (s.raise src).lklTx = s.lklTx := rfl
@[simp] theorem State.raise_windows (src : AttnSource) : (s.raise src).windows = s.windows := rfl
@[simp] theorem State.raise_slots (src : AttnSource) : (s.raise src).slots = s.slots := rfl
@[simp] theorem State.raise_free (src : AttnSource) : (s.raise src).free = s.free := rfl
@[simp] theorem State.raise_ports (src : AttnSource) : (s.raise src).ports = s.ports := rfl
@[simp] theorem State.raise_emq (src : AttnSource) : (s.raise src).emq = s.emq := rfl
@[simp] theorem State.raise_pointer (src : AttnSource) : (s.raise src).pointer = s.pointer := rfl
@[simp] theorem State.raise_profiles (src : AttnSource) : (s.raise src).profiles = s.profiles := rfl
@[simp] theorem State.raise_meters (src : AttnSource) : (s.raise src).meters = s.meters := rfl
@[simp] theorem State.raise_command (src : AttnSource) : (s.raise src).command = s.command := rfl
@[simp] theorem State.raise_result (src : AttnSource) : (s.raise src).result = s.result := rfl
@[simp] theorem State.raise_select (src : AttnSource) : (s.raise src).select = s.select := rfl
@[simp] theorem State.raise_attnEnable (src : AttnSource) : (s.raise src).attnEnable = s.attnEnable := rfl
@[simp] theorem State.raise_poolLowMark (src : AttnSource) : (s.raise src).poolLowMark = s.poolLowMark := rfl
@[simp] theorem State.raise_readData (src : AttnSource) : (s.raise src).readData = s.readData := rfl
@[simp] theorem State.raise_freeIndex (src : AttnSource) : (s.raise src).freeIndex = s.freeIndex := rfl
@[simp] theorem State.raise_pending (src : AttnSource) : (s.raise src).pending = s.pending := rfl

@[simp] theorem State.raiseIf_timebase (b : Bool) (src : AttnSource) : (s.raiseIf b src).timebase = s.timebase := rfl
@[simp] theorem State.raiseIf_link (b : Bool) (src : AttnSource) : (s.raiseIf b src).link = s.link := rfl
@[simp] theorem State.raiseIf_queryFifo (b : Bool) (src : AttnSource) : (s.raiseIf b src).queryFifo = s.queryFifo := rfl
@[simp] theorem State.raiseIf_answerFifo (b : Bool) (src : AttnSource) : (s.raiseIf b src).answerFifo = s.answerFifo := rfl
@[simp] theorem State.raiseIf_credit (b : Bool) (src : AttnSource) : (s.raiseIf b src).credit = s.credit := rfl
@[simp] theorem State.raiseIf_nextTx (b : Bool) (src : AttnSource) : (s.raiseIf b src).nextTx = s.nextTx := rfl
@[simp] theorem State.raiseIf_lklTx (b : Bool) (src : AttnSource) : (s.raiseIf b src).lklTx = s.lklTx := rfl
@[simp] theorem State.raiseIf_windows (b : Bool) (src : AttnSource) : (s.raiseIf b src).windows = s.windows := rfl
@[simp] theorem State.raiseIf_slots (b : Bool) (src : AttnSource) : (s.raiseIf b src).slots = s.slots := rfl
@[simp] theorem State.raiseIf_free (b : Bool) (src : AttnSource) : (s.raiseIf b src).free = s.free := rfl
@[simp] theorem State.raiseIf_ports (b : Bool) (src : AttnSource) : (s.raiseIf b src).ports = s.ports := rfl
@[simp] theorem State.raiseIf_emq (b : Bool) (src : AttnSource) : (s.raiseIf b src).emq = s.emq := rfl
@[simp] theorem State.raiseIf_pointer (b : Bool) (src : AttnSource) : (s.raiseIf b src).pointer = s.pointer := rfl
@[simp] theorem State.raiseIf_profiles (b : Bool) (src : AttnSource) : (s.raiseIf b src).profiles = s.profiles := rfl
@[simp] theorem State.raiseIf_meters (b : Bool) (src : AttnSource) : (s.raiseIf b src).meters = s.meters := rfl
@[simp] theorem State.raiseIf_command (b : Bool) (src : AttnSource) : (s.raiseIf b src).command = s.command := rfl
@[simp] theorem State.raiseIf_result (b : Bool) (src : AttnSource) : (s.raiseIf b src).result = s.result := rfl
@[simp] theorem State.raiseIf_select (b : Bool) (src : AttnSource) : (s.raiseIf b src).select = s.select := rfl
@[simp] theorem State.raiseIf_attnEnable (b : Bool) (src : AttnSource) : (s.raiseIf b src).attnEnable = s.attnEnable := rfl
@[simp] theorem State.raiseIf_poolLowMark (b : Bool) (src : AttnSource) : (s.raiseIf b src).poolLowMark = s.poolLowMark := rfl
@[simp] theorem State.raiseIf_readData (b : Bool) (src : AttnSource) : (s.raiseIf b src).readData = s.readData := rfl
@[simp] theorem State.raiseIf_freeIndex (b : Bool) (src : AttnSource) : (s.raiseIf b src).freeIndex = s.freeIndex := rfl
@[simp] theorem State.raiseIf_pending (b : Bool) (src : AttnSource) : (s.raiseIf b src).pending = s.pending := rfl

@[simp] theorem State.offerTo_timebase (sel : BitVec 6) (ev : MeterEvent) (inc : Nat) : (s.offerTo sel ev inc).timebase = s.timebase := by simp only [State.offerTo]
@[simp] theorem State.offerTo_link (sel : BitVec 6) (ev : MeterEvent) (inc : Nat) : (s.offerTo sel ev inc).link = s.link := by simp only [State.offerTo]
@[simp] theorem State.offerTo_queryFifo (sel : BitVec 6) (ev : MeterEvent) (inc : Nat) : (s.offerTo sel ev inc).queryFifo = s.queryFifo := by simp only [State.offerTo]
@[simp] theorem State.offerTo_answerFifo (sel : BitVec 6) (ev : MeterEvent) (inc : Nat) : (s.offerTo sel ev inc).answerFifo = s.answerFifo := by simp only [State.offerTo]
@[simp] theorem State.offerTo_credit (sel : BitVec 6) (ev : MeterEvent) (inc : Nat) : (s.offerTo sel ev inc).credit = s.credit := by simp only [State.offerTo]
@[simp] theorem State.offerTo_nextTx (sel : BitVec 6) (ev : MeterEvent) (inc : Nat) : (s.offerTo sel ev inc).nextTx = s.nextTx := by simp only [State.offerTo]
@[simp] theorem State.offerTo_lklTx (sel : BitVec 6) (ev : MeterEvent) (inc : Nat) : (s.offerTo sel ev inc).lklTx = s.lklTx := by simp only [State.offerTo]
@[simp] theorem State.offerTo_windows (sel : BitVec 6) (ev : MeterEvent) (inc : Nat) : (s.offerTo sel ev inc).windows = s.windows := by simp only [State.offerTo]
@[simp] theorem State.offerTo_slots (sel : BitVec 6) (ev : MeterEvent) (inc : Nat) : (s.offerTo sel ev inc).slots = s.slots := by simp only [State.offerTo]
@[simp] theorem State.offerTo_free (sel : BitVec 6) (ev : MeterEvent) (inc : Nat) : (s.offerTo sel ev inc).free = s.free := by simp only [State.offerTo]
@[simp] theorem State.offerTo_ports (sel : BitVec 6) (ev : MeterEvent) (inc : Nat) : (s.offerTo sel ev inc).ports = s.ports := by simp only [State.offerTo]
@[simp] theorem State.offerTo_emq (sel : BitVec 6) (ev : MeterEvent) (inc : Nat) : (s.offerTo sel ev inc).emq = s.emq := by simp only [State.offerTo]
@[simp] theorem State.offerTo_pointer (sel : BitVec 6) (ev : MeterEvent) (inc : Nat) : (s.offerTo sel ev inc).pointer = s.pointer := by simp only [State.offerTo]
@[simp] theorem State.offerTo_profiles (sel : BitVec 6) (ev : MeterEvent) (inc : Nat) : (s.offerTo sel ev inc).profiles = s.profiles := by simp only [State.offerTo]
@[simp] theorem State.offerTo_command (sel : BitVec 6) (ev : MeterEvent) (inc : Nat) : (s.offerTo sel ev inc).command = s.command := by simp only [State.offerTo]
@[simp] theorem State.offerTo_result (sel : BitVec 6) (ev : MeterEvent) (inc : Nat) : (s.offerTo sel ev inc).result = s.result := by simp only [State.offerTo]
@[simp] theorem State.offerTo_select (sel : BitVec 6) (ev : MeterEvent) (inc : Nat) : (s.offerTo sel ev inc).select = s.select := by simp only [State.offerTo]
@[simp] theorem State.offerTo_attnEnable (sel : BitVec 6) (ev : MeterEvent) (inc : Nat) : (s.offerTo sel ev inc).attnEnable = s.attnEnable := by simp only [State.offerTo]
@[simp] theorem State.offerTo_poolLowMark (sel : BitVec 6) (ev : MeterEvent) (inc : Nat) : (s.offerTo sel ev inc).poolLowMark = s.poolLowMark := by simp only [State.offerTo]
@[simp] theorem State.offerTo_readData (sel : BitVec 6) (ev : MeterEvent) (inc : Nat) : (s.offerTo sel ev inc).readData = s.readData := by simp only [State.offerTo]
@[simp] theorem State.offerTo_freeIndex (sel : BitVec 6) (ev : MeterEvent) (inc : Nat) : (s.offerTo sel ev inc).freeIndex = s.freeIndex := by simp only [State.offerTo]
@[simp] theorem State.offerTo_pending (sel : BitVec 6) (ev : MeterEvent) (inc : Nat) : (s.offerTo sel ev inc).pending = s.pending := by simp only [State.offerTo]

@[simp] theorem State.offer_timebase (p : Nat) (ev : MeterEvent) (inc : Nat) : (s.offer p ev inc).timebase = s.timebase := by
  rw [State.offer, State.offerTo_timebase, State.offerTo_timebase]
@[simp] theorem State.offer_link (p : Nat) (ev : MeterEvent) (inc : Nat) : (s.offer p ev inc).link = s.link := by
  rw [State.offer, State.offerTo_link, State.offerTo_link]
@[simp] theorem State.offer_queryFifo (p : Nat) (ev : MeterEvent) (inc : Nat) : (s.offer p ev inc).queryFifo = s.queryFifo := by
  rw [State.offer, State.offerTo_queryFifo, State.offerTo_queryFifo]
@[simp] theorem State.offer_answerFifo (p : Nat) (ev : MeterEvent) (inc : Nat) : (s.offer p ev inc).answerFifo = s.answerFifo := by
  rw [State.offer, State.offerTo_answerFifo, State.offerTo_answerFifo]
@[simp] theorem State.offer_credit (p : Nat) (ev : MeterEvent) (inc : Nat) : (s.offer p ev inc).credit = s.credit := by
  rw [State.offer, State.offerTo_credit, State.offerTo_credit]
@[simp] theorem State.offer_nextTx (p : Nat) (ev : MeterEvent) (inc : Nat) : (s.offer p ev inc).nextTx = s.nextTx := by
  rw [State.offer, State.offerTo_nextTx, State.offerTo_nextTx]
@[simp] theorem State.offer_lklTx (p : Nat) (ev : MeterEvent) (inc : Nat) : (s.offer p ev inc).lklTx = s.lklTx := by
  rw [State.offer, State.offerTo_lklTx, State.offerTo_lklTx]
@[simp] theorem State.offer_windows (p : Nat) (ev : MeterEvent) (inc : Nat) : (s.offer p ev inc).windows = s.windows := by
  rw [State.offer, State.offerTo_windows, State.offerTo_windows]
@[simp] theorem State.offer_slots (p : Nat) (ev : MeterEvent) (inc : Nat) : (s.offer p ev inc).slots = s.slots := by
  rw [State.offer, State.offerTo_slots, State.offerTo_slots]
@[simp] theorem State.offer_free (p : Nat) (ev : MeterEvent) (inc : Nat) : (s.offer p ev inc).free = s.free := by
  rw [State.offer, State.offerTo_free, State.offerTo_free]
@[simp] theorem State.offer_ports (p : Nat) (ev : MeterEvent) (inc : Nat) : (s.offer p ev inc).ports = s.ports := by
  rw [State.offer, State.offerTo_ports, State.offerTo_ports]
@[simp] theorem State.offer_emq (p : Nat) (ev : MeterEvent) (inc : Nat) : (s.offer p ev inc).emq = s.emq := by
  rw [State.offer, State.offerTo_emq, State.offerTo_emq]
@[simp] theorem State.offer_pointer (p : Nat) (ev : MeterEvent) (inc : Nat) : (s.offer p ev inc).pointer = s.pointer := by
  rw [State.offer, State.offerTo_pointer, State.offerTo_pointer]
@[simp] theorem State.offer_profiles (p : Nat) (ev : MeterEvent) (inc : Nat) : (s.offer p ev inc).profiles = s.profiles := by
  rw [State.offer, State.offerTo_profiles, State.offerTo_profiles]
@[simp] theorem State.offer_command (p : Nat) (ev : MeterEvent) (inc : Nat) : (s.offer p ev inc).command = s.command := by
  rw [State.offer, State.offerTo_command, State.offerTo_command]
@[simp] theorem State.offer_result (p : Nat) (ev : MeterEvent) (inc : Nat) : (s.offer p ev inc).result = s.result := by
  rw [State.offer, State.offerTo_result, State.offerTo_result]
@[simp] theorem State.offer_select (p : Nat) (ev : MeterEvent) (inc : Nat) : (s.offer p ev inc).select = s.select := by
  rw [State.offer, State.offerTo_select, State.offerTo_select]
@[simp] theorem State.offer_attnEnable (p : Nat) (ev : MeterEvent) (inc : Nat) : (s.offer p ev inc).attnEnable = s.attnEnable := by
  rw [State.offer, State.offerTo_attnEnable, State.offerTo_attnEnable]
@[simp] theorem State.offer_poolLowMark (p : Nat) (ev : MeterEvent) (inc : Nat) : (s.offer p ev inc).poolLowMark = s.poolLowMark := by
  rw [State.offer, State.offerTo_poolLowMark, State.offerTo_poolLowMark]
@[simp] theorem State.offer_readData (p : Nat) (ev : MeterEvent) (inc : Nat) : (s.offer p ev inc).readData = s.readData := by
  rw [State.offer, State.offerTo_readData, State.offerTo_readData]
@[simp] theorem State.offer_freeIndex (p : Nat) (ev : MeterEvent) (inc : Nat) : (s.offer p ev inc).freeIndex = s.freeIndex := by
  rw [State.offer, State.offerTo_freeIndex, State.offerTo_freeIndex]
@[simp] theorem State.offer_pending (p : Nat) (ev : MeterEvent) (inc : Nat) : (s.offer p ev inc).pending = s.pending := by
  rw [State.offer, State.offerTo_pending, State.offerTo_pending]

@[simp] theorem State.setPort_timebase (p : Nat) (v : Port) : (s.setPort p v).timebase = s.timebase := rfl
@[simp] theorem State.setPort_link (p : Nat) (v : Port) : (s.setPort p v).link = s.link := rfl
@[simp] theorem State.setPort_queryFifo (p : Nat) (v : Port) : (s.setPort p v).queryFifo = s.queryFifo := rfl
@[simp] theorem State.setPort_answerFifo (p : Nat) (v : Port) : (s.setPort p v).answerFifo = s.answerFifo := rfl
@[simp] theorem State.setPort_credit (p : Nat) (v : Port) : (s.setPort p v).credit = s.credit := rfl
@[simp] theorem State.setPort_nextTx (p : Nat) (v : Port) : (s.setPort p v).nextTx = s.nextTx := rfl
@[simp] theorem State.setPort_lklTx (p : Nat) (v : Port) : (s.setPort p v).lklTx = s.lklTx := rfl
@[simp] theorem State.setPort_windows (p : Nat) (v : Port) : (s.setPort p v).windows = s.windows := rfl
@[simp] theorem State.setPort_slots (p : Nat) (v : Port) : (s.setPort p v).slots = s.slots := rfl
@[simp] theorem State.setPort_free (p : Nat) (v : Port) : (s.setPort p v).free = s.free := rfl
@[simp] theorem State.setPort_emq (p : Nat) (v : Port) : (s.setPort p v).emq = s.emq := rfl
@[simp] theorem State.setPort_pointer (p : Nat) (v : Port) : (s.setPort p v).pointer = s.pointer := rfl
@[simp] theorem State.setPort_profiles (p : Nat) (v : Port) : (s.setPort p v).profiles = s.profiles := rfl
@[simp] theorem State.setPort_meters (p : Nat) (v : Port) : (s.setPort p v).meters = s.meters := rfl
@[simp] theorem State.setPort_command (p : Nat) (v : Port) : (s.setPort p v).command = s.command := rfl
@[simp] theorem State.setPort_result (p : Nat) (v : Port) : (s.setPort p v).result = s.result := rfl
@[simp] theorem State.setPort_select (p : Nat) (v : Port) : (s.setPort p v).select = s.select := rfl
@[simp] theorem State.setPort_attn (p : Nat) (v : Port) : (s.setPort p v).attn = s.attn := rfl
@[simp] theorem State.setPort_attnEnable (p : Nat) (v : Port) : (s.setPort p v).attnEnable = s.attnEnable := rfl
@[simp] theorem State.setPort_poolLowMark (p : Nat) (v : Port) : (s.setPort p v).poolLowMark = s.poolLowMark := rfl
@[simp] theorem State.setPort_readData (p : Nat) (v : Port) : (s.setPort p v).readData = s.readData := rfl
@[simp] theorem State.setPort_freeIndex (p : Nat) (v : Port) : (s.setPort p v).freeIndex = s.freeIndex := rfl
@[simp] theorem State.setPort_pending (p : Nat) (v : Port) : (s.setPort p v).pending = s.pending := rfl

@[simp] theorem State.setSlot_timebase (k : Nat) (v : Slot) : (s.setSlot k v).timebase = s.timebase := rfl
@[simp] theorem State.setSlot_link (k : Nat) (v : Slot) : (s.setSlot k v).link = s.link := rfl
@[simp] theorem State.setSlot_queryFifo (k : Nat) (v : Slot) : (s.setSlot k v).queryFifo = s.queryFifo := rfl
@[simp] theorem State.setSlot_answerFifo (k : Nat) (v : Slot) : (s.setSlot k v).answerFifo = s.answerFifo := rfl
@[simp] theorem State.setSlot_credit (k : Nat) (v : Slot) : (s.setSlot k v).credit = s.credit := rfl
@[simp] theorem State.setSlot_nextTx (k : Nat) (v : Slot) : (s.setSlot k v).nextTx = s.nextTx := rfl
@[simp] theorem State.setSlot_lklTx (k : Nat) (v : Slot) : (s.setSlot k v).lklTx = s.lklTx := rfl
@[simp] theorem State.setSlot_windows (k : Nat) (v : Slot) : (s.setSlot k v).windows = s.windows := rfl
@[simp] theorem State.setSlot_free (k : Nat) (v : Slot) : (s.setSlot k v).free = s.free := rfl
@[simp] theorem State.setSlot_ports (k : Nat) (v : Slot) : (s.setSlot k v).ports = s.ports := rfl
@[simp] theorem State.setSlot_emq (k : Nat) (v : Slot) : (s.setSlot k v).emq = s.emq := rfl
@[simp] theorem State.setSlot_pointer (k : Nat) (v : Slot) : (s.setSlot k v).pointer = s.pointer := rfl
@[simp] theorem State.setSlot_profiles (k : Nat) (v : Slot) : (s.setSlot k v).profiles = s.profiles := rfl
@[simp] theorem State.setSlot_meters (k : Nat) (v : Slot) : (s.setSlot k v).meters = s.meters := rfl
@[simp] theorem State.setSlot_command (k : Nat) (v : Slot) : (s.setSlot k v).command = s.command := rfl
@[simp] theorem State.setSlot_result (k : Nat) (v : Slot) : (s.setSlot k v).result = s.result := rfl
@[simp] theorem State.setSlot_select (k : Nat) (v : Slot) : (s.setSlot k v).select = s.select := rfl
@[simp] theorem State.setSlot_attn (k : Nat) (v : Slot) : (s.setSlot k v).attn = s.attn := rfl
@[simp] theorem State.setSlot_attnEnable (k : Nat) (v : Slot) : (s.setSlot k v).attnEnable = s.attnEnable := rfl
@[simp] theorem State.setSlot_poolLowMark (k : Nat) (v : Slot) : (s.setSlot k v).poolLowMark = s.poolLowMark := rfl
@[simp] theorem State.setSlot_readData (k : Nat) (v : Slot) : (s.setSlot k v).readData = s.readData := rfl
@[simp] theorem State.setSlot_freeIndex (k : Nat) (v : Slot) : (s.setSlot k v).freeIndex = s.freeIndex := rfl
@[simp] theorem State.setSlot_pending (k : Nat) (v : Slot) : (s.setSlot k v).pending = s.pending := rfl

@[simp] theorem State.setGather_timebase (k : Nat) (g : Gather) : (s.setGather k g).timebase = s.timebase := rfl
@[simp] theorem State.setGather_link (k : Nat) (g : Gather) : (s.setGather k g).link = s.link := rfl
@[simp] theorem State.setGather_queryFifo (k : Nat) (g : Gather) : (s.setGather k g).queryFifo = s.queryFifo := rfl
@[simp] theorem State.setGather_answerFifo (k : Nat) (g : Gather) : (s.setGather k g).answerFifo = s.answerFifo := rfl
@[simp] theorem State.setGather_credit (k : Nat) (g : Gather) : (s.setGather k g).credit = s.credit := rfl
@[simp] theorem State.setGather_nextTx (k : Nat) (g : Gather) : (s.setGather k g).nextTx = s.nextTx := rfl
@[simp] theorem State.setGather_lklTx (k : Nat) (g : Gather) : (s.setGather k g).lklTx = s.lklTx := rfl
@[simp] theorem State.setGather_windows (k : Nat) (g : Gather) : (s.setGather k g).windows = s.windows := rfl
@[simp] theorem State.setGather_free (k : Nat) (g : Gather) : (s.setGather k g).free = s.free := rfl
@[simp] theorem State.setGather_ports (k : Nat) (g : Gather) : (s.setGather k g).ports = s.ports := rfl
@[simp] theorem State.setGather_emq (k : Nat) (g : Gather) : (s.setGather k g).emq = s.emq := rfl
@[simp] theorem State.setGather_pointer (k : Nat) (g : Gather) : (s.setGather k g).pointer = s.pointer := rfl
@[simp] theorem State.setGather_profiles (k : Nat) (g : Gather) : (s.setGather k g).profiles = s.profiles := rfl
@[simp] theorem State.setGather_meters (k : Nat) (g : Gather) : (s.setGather k g).meters = s.meters := rfl
@[simp] theorem State.setGather_command (k : Nat) (g : Gather) : (s.setGather k g).command = s.command := rfl
@[simp] theorem State.setGather_result (k : Nat) (g : Gather) : (s.setGather k g).result = s.result := rfl
@[simp] theorem State.setGather_select (k : Nat) (g : Gather) : (s.setGather k g).select = s.select := rfl
@[simp] theorem State.setGather_attn (k : Nat) (g : Gather) : (s.setGather k g).attn = s.attn := rfl
@[simp] theorem State.setGather_attnEnable (k : Nat) (g : Gather) : (s.setGather k g).attnEnable = s.attnEnable := rfl
@[simp] theorem State.setGather_poolLowMark (k : Nat) (g : Gather) : (s.setGather k g).poolLowMark = s.poolLowMark := rfl
@[simp] theorem State.setGather_readData (k : Nat) (g : Gather) : (s.setGather k g).readData = s.readData := rfl
@[simp] theorem State.setGather_freeIndex (k : Nat) (g : Gather) : (s.setGather k g).freeIndex = s.freeIndex := rfl
@[simp] theorem State.setGather_pending (k : Nat) (g : Gather) : (s.setGather k g).pending = s.pending := rfl

@[simp] theorem State.mapMeters_timebase (f : Meter → Meter) : (s.mapMeters f).timebase = s.timebase := rfl
@[simp] theorem State.mapMeters_link (f : Meter → Meter) : (s.mapMeters f).link = s.link := rfl
@[simp] theorem State.mapMeters_queryFifo (f : Meter → Meter) : (s.mapMeters f).queryFifo = s.queryFifo := rfl
@[simp] theorem State.mapMeters_answerFifo (f : Meter → Meter) : (s.mapMeters f).answerFifo = s.answerFifo := rfl
@[simp] theorem State.mapMeters_credit (f : Meter → Meter) : (s.mapMeters f).credit = s.credit := rfl
@[simp] theorem State.mapMeters_nextTx (f : Meter → Meter) : (s.mapMeters f).nextTx = s.nextTx := rfl
@[simp] theorem State.mapMeters_lklTx (f : Meter → Meter) : (s.mapMeters f).lklTx = s.lklTx := rfl
@[simp] theorem State.mapMeters_windows (f : Meter → Meter) : (s.mapMeters f).windows = s.windows := rfl
@[simp] theorem State.mapMeters_slots (f : Meter → Meter) : (s.mapMeters f).slots = s.slots := rfl
@[simp] theorem State.mapMeters_free (f : Meter → Meter) : (s.mapMeters f).free = s.free := rfl
@[simp] theorem State.mapMeters_ports (f : Meter → Meter) : (s.mapMeters f).ports = s.ports := rfl
@[simp] theorem State.mapMeters_emq (f : Meter → Meter) : (s.mapMeters f).emq = s.emq := rfl
@[simp] theorem State.mapMeters_pointer (f : Meter → Meter) : (s.mapMeters f).pointer = s.pointer := rfl
@[simp] theorem State.mapMeters_profiles (f : Meter → Meter) : (s.mapMeters f).profiles = s.profiles := rfl
@[simp] theorem State.mapMeters_command (f : Meter → Meter) : (s.mapMeters f).command = s.command := rfl
@[simp] theorem State.mapMeters_result (f : Meter → Meter) : (s.mapMeters f).result = s.result := rfl
@[simp] theorem State.mapMeters_select (f : Meter → Meter) : (s.mapMeters f).select = s.select := rfl
@[simp] theorem State.mapMeters_attn (f : Meter → Meter) : (s.mapMeters f).attn = s.attn := rfl
@[simp] theorem State.mapMeters_attnEnable (f : Meter → Meter) : (s.mapMeters f).attnEnable = s.attnEnable := rfl
@[simp] theorem State.mapMeters_poolLowMark (f : Meter → Meter) : (s.mapMeters f).poolLowMark = s.poolLowMark := rfl
@[simp] theorem State.mapMeters_readData (f : Meter → Meter) : (s.mapMeters f).readData = s.readData := rfl
@[simp] theorem State.mapMeters_freeIndex (f : Meter → Meter) : (s.mapMeters f).freeIndex = s.freeIndex := rfl
@[simp] theorem State.mapMeters_pending (f : Meter → Meter) : (s.mapMeters f).pending = s.pending := rfl

@[simp] theorem State.setMeter_timebase (i : Nat) (m : Meter) : (s.setMeter i m).timebase = s.timebase := rfl
@[simp] theorem State.setMeter_link (i : Nat) (m : Meter) : (s.setMeter i m).link = s.link := rfl
@[simp] theorem State.setMeter_queryFifo (i : Nat) (m : Meter) : (s.setMeter i m).queryFifo = s.queryFifo := rfl
@[simp] theorem State.setMeter_answerFifo (i : Nat) (m : Meter) : (s.setMeter i m).answerFifo = s.answerFifo := rfl
@[simp] theorem State.setMeter_credit (i : Nat) (m : Meter) : (s.setMeter i m).credit = s.credit := rfl
@[simp] theorem State.setMeter_nextTx (i : Nat) (m : Meter) : (s.setMeter i m).nextTx = s.nextTx := rfl
@[simp] theorem State.setMeter_lklTx (i : Nat) (m : Meter) : (s.setMeter i m).lklTx = s.lklTx := rfl
@[simp] theorem State.setMeter_windows (i : Nat) (m : Meter) : (s.setMeter i m).windows = s.windows := rfl
@[simp] theorem State.setMeter_slots (i : Nat) (m : Meter) : (s.setMeter i m).slots = s.slots := rfl
@[simp] theorem State.setMeter_free (i : Nat) (m : Meter) : (s.setMeter i m).free = s.free := rfl
@[simp] theorem State.setMeter_ports (i : Nat) (m : Meter) : (s.setMeter i m).ports = s.ports := rfl
@[simp] theorem State.setMeter_emq (i : Nat) (m : Meter) : (s.setMeter i m).emq = s.emq := rfl
@[simp] theorem State.setMeter_pointer (i : Nat) (m : Meter) : (s.setMeter i m).pointer = s.pointer := rfl
@[simp] theorem State.setMeter_profiles (i : Nat) (m : Meter) : (s.setMeter i m).profiles = s.profiles := rfl
@[simp] theorem State.setMeter_command (i : Nat) (m : Meter) : (s.setMeter i m).command = s.command := rfl
@[simp] theorem State.setMeter_result (i : Nat) (m : Meter) : (s.setMeter i m).result = s.result := rfl
@[simp] theorem State.setMeter_select (i : Nat) (m : Meter) : (s.setMeter i m).select = s.select := rfl
@[simp] theorem State.setMeter_attn (i : Nat) (m : Meter) : (s.setMeter i m).attn = s.attn := rfl
@[simp] theorem State.setMeter_attnEnable (i : Nat) (m : Meter) : (s.setMeter i m).attnEnable = s.attnEnable := rfl
@[simp] theorem State.setMeter_poolLowMark (i : Nat) (m : Meter) : (s.setMeter i m).poolLowMark = s.poolLowMark := rfl
@[simp] theorem State.setMeter_readData (i : Nat) (m : Meter) : (s.setMeter i m).readData = s.readData := rfl
@[simp] theorem State.setMeter_freeIndex (i : Nat) (m : Meter) : (s.setMeter i m).freeIndex = s.freeIndex := rfl
@[simp] theorem State.setMeter_pending (i : Nat) (m : Meter) : (s.setMeter i m).pending = s.pending := rfl

@[simp] theorem State.dequeue_timebase (p c k : Nat) : (s.dequeue p c k).timebase = s.timebase := rfl
@[simp] theorem State.dequeue_link (p c k : Nat) : (s.dequeue p c k).link = s.link := rfl
@[simp] theorem State.dequeue_queryFifo (p c k : Nat) : (s.dequeue p c k).queryFifo = s.queryFifo := rfl
@[simp] theorem State.dequeue_answerFifo (p c k : Nat) : (s.dequeue p c k).answerFifo = s.answerFifo := rfl
@[simp] theorem State.dequeue_credit (p c k : Nat) : (s.dequeue p c k).credit = s.credit := rfl
@[simp] theorem State.dequeue_nextTx (p c k : Nat) : (s.dequeue p c k).nextTx = s.nextTx := rfl
@[simp] theorem State.dequeue_lklTx (p c k : Nat) : (s.dequeue p c k).lklTx = s.lklTx := rfl
@[simp] theorem State.dequeue_windows (p c k : Nat) : (s.dequeue p c k).windows = s.windows := rfl
@[simp] theorem State.dequeue_slots (p c k : Nat) : (s.dequeue p c k).slots = s.slots := rfl
@[simp] theorem State.dequeue_free (p c k : Nat) : (s.dequeue p c k).free = s.free := rfl
@[simp] theorem State.dequeue_emq (p c k : Nat) : (s.dequeue p c k).emq = s.emq := rfl
@[simp] theorem State.dequeue_pointer (p c k : Nat) : (s.dequeue p c k).pointer = s.pointer := rfl
@[simp] theorem State.dequeue_profiles (p c k : Nat) : (s.dequeue p c k).profiles = s.profiles := rfl
@[simp] theorem State.dequeue_meters (p c k : Nat) : (s.dequeue p c k).meters = s.meters := rfl
@[simp] theorem State.dequeue_command (p c k : Nat) : (s.dequeue p c k).command = s.command := rfl
@[simp] theorem State.dequeue_result (p c k : Nat) : (s.dequeue p c k).result = s.result := rfl
@[simp] theorem State.dequeue_select (p c k : Nat) : (s.dequeue p c k).select = s.select := rfl
@[simp] theorem State.dequeue_attn (p c k : Nat) : (s.dequeue p c k).attn = s.attn := rfl
@[simp] theorem State.dequeue_attnEnable (p c k : Nat) : (s.dequeue p c k).attnEnable = s.attnEnable := rfl
@[simp] theorem State.dequeue_poolLowMark (p c k : Nat) : (s.dequeue p c k).poolLowMark = s.poolLowMark := rfl
@[simp] theorem State.dequeue_readData (p c k : Nat) : (s.dequeue p c k).readData = s.readData := rfl
@[simp] theorem State.dequeue_freeIndex (p c k : Nat) : (s.dequeue p c k).freeIndex = s.freeIndex := rfl
@[simp] theorem State.dequeue_pending (p c k : Nat) : (s.dequeue p c k).pending = s.pending := rfl

@[simp] theorem State.enqueue_timebase (p c k : Nat) : (s.enqueue p c k).timebase = s.timebase := rfl
@[simp] theorem State.enqueue_link (p c k : Nat) : (s.enqueue p c k).link = s.link := rfl
@[simp] theorem State.enqueue_queryFifo (p c k : Nat) : (s.enqueue p c k).queryFifo = s.queryFifo := rfl
@[simp] theorem State.enqueue_answerFifo (p c k : Nat) : (s.enqueue p c k).answerFifo = s.answerFifo := rfl
@[simp] theorem State.enqueue_credit (p c k : Nat) : (s.enqueue p c k).credit = s.credit := rfl
@[simp] theorem State.enqueue_nextTx (p c k : Nat) : (s.enqueue p c k).nextTx = s.nextTx := rfl
@[simp] theorem State.enqueue_lklTx (p c k : Nat) : (s.enqueue p c k).lklTx = s.lklTx := rfl
@[simp] theorem State.enqueue_windows (p c k : Nat) : (s.enqueue p c k).windows = s.windows := rfl
@[simp] theorem State.enqueue_slots (p c k : Nat) : (s.enqueue p c k).slots = s.slots := rfl
@[simp] theorem State.enqueue_free (p c k : Nat) : (s.enqueue p c k).free = s.free := rfl
@[simp] theorem State.enqueue_emq (p c k : Nat) : (s.enqueue p c k).emq = s.emq := rfl
@[simp] theorem State.enqueue_pointer (p c k : Nat) : (s.enqueue p c k).pointer = s.pointer := rfl
@[simp] theorem State.enqueue_profiles (p c k : Nat) : (s.enqueue p c k).profiles = s.profiles := rfl
@[simp] theorem State.enqueue_meters (p c k : Nat) : (s.enqueue p c k).meters = s.meters := rfl
@[simp] theorem State.enqueue_command (p c k : Nat) : (s.enqueue p c k).command = s.command := rfl
@[simp] theorem State.enqueue_result (p c k : Nat) : (s.enqueue p c k).result = s.result := rfl
@[simp] theorem State.enqueue_select (p c k : Nat) : (s.enqueue p c k).select = s.select := rfl
@[simp] theorem State.enqueue_attn (p c k : Nat) : (s.enqueue p c k).attn = s.attn := rfl
@[simp] theorem State.enqueue_attnEnable (p c k : Nat) : (s.enqueue p c k).attnEnable = s.attnEnable := rfl
@[simp] theorem State.enqueue_poolLowMark (p c k : Nat) : (s.enqueue p c k).poolLowMark = s.poolLowMark := rfl
@[simp] theorem State.enqueue_readData (p c k : Nat) : (s.enqueue p c k).readData = s.readData := rfl
@[simp] theorem State.enqueue_freeIndex (p c k : Nat) : (s.enqueue p c k).freeIndex = s.freeIndex := rfl
@[simp] theorem State.enqueue_pending (p c k : Nat) : (s.enqueue p c k).pending = s.pending := rfl

@[simp] theorem State.giveBack_timebase (p cells : Nat) : (s.giveBack p cells).timebase = s.timebase := rfl
@[simp] theorem State.giveBack_link (p cells : Nat) : (s.giveBack p cells).link = s.link := rfl
@[simp] theorem State.giveBack_queryFifo (p cells : Nat) : (s.giveBack p cells).queryFifo = s.queryFifo := rfl
@[simp] theorem State.giveBack_answerFifo (p cells : Nat) : (s.giveBack p cells).answerFifo = s.answerFifo := rfl
@[simp] theorem State.giveBack_credit (p cells : Nat) : (s.giveBack p cells).credit = s.credit := rfl
@[simp] theorem State.giveBack_nextTx (p cells : Nat) : (s.giveBack p cells).nextTx = s.nextTx := rfl
@[simp] theorem State.giveBack_lklTx (p cells : Nat) : (s.giveBack p cells).lklTx = s.lklTx := rfl
@[simp] theorem State.giveBack_windows (p cells : Nat) : (s.giveBack p cells).windows = s.windows := rfl
@[simp] theorem State.giveBack_slots (p cells : Nat) : (s.giveBack p cells).slots = s.slots := rfl
@[simp] theorem State.giveBack_free (p cells : Nat) : (s.giveBack p cells).free = s.free := rfl
@[simp] theorem State.giveBack_emq (p cells : Nat) : (s.giveBack p cells).emq = s.emq := rfl
@[simp] theorem State.giveBack_pointer (p cells : Nat) : (s.giveBack p cells).pointer = s.pointer := rfl
@[simp] theorem State.giveBack_profiles (p cells : Nat) : (s.giveBack p cells).profiles = s.profiles := rfl
@[simp] theorem State.giveBack_meters (p cells : Nat) : (s.giveBack p cells).meters = s.meters := rfl
@[simp] theorem State.giveBack_command (p cells : Nat) : (s.giveBack p cells).command = s.command := rfl
@[simp] theorem State.giveBack_result (p cells : Nat) : (s.giveBack p cells).result = s.result := rfl
@[simp] theorem State.giveBack_select (p cells : Nat) : (s.giveBack p cells).select = s.select := rfl
@[simp] theorem State.giveBack_attn (p cells : Nat) : (s.giveBack p cells).attn = s.attn := rfl
@[simp] theorem State.giveBack_attnEnable (p cells : Nat) : (s.giveBack p cells).attnEnable = s.attnEnable := rfl
@[simp] theorem State.giveBack_poolLowMark (p cells : Nat) : (s.giveBack p cells).poolLowMark = s.poolLowMark := rfl
@[simp] theorem State.giveBack_readData (p cells : Nat) : (s.giveBack p cells).readData = s.readData := rfl
@[simp] theorem State.giveBack_freeIndex (p cells : Nat) : (s.giveBack p cells).freeIndex = s.freeIndex := rfl
@[simp] theorem State.giveBack_pending (p cells : Nat) : (s.giveBack p cells).pending = s.pending := rfl

@[simp] theorem State.freeSlot_timebase (k : Nat) (g : Gather) : (s.freeSlot k g).timebase = s.timebase := rfl
@[simp] theorem State.freeSlot_link (k : Nat) (g : Gather) : (s.freeSlot k g).link = s.link := rfl
@[simp] theorem State.freeSlot_queryFifo (k : Nat) (g : Gather) : (s.freeSlot k g).queryFifo = s.queryFifo := rfl
@[simp] theorem State.freeSlot_answerFifo (k : Nat) (g : Gather) : (s.freeSlot k g).answerFifo = s.answerFifo := rfl
@[simp] theorem State.freeSlot_credit (k : Nat) (g : Gather) : (s.freeSlot k g).credit = s.credit := rfl
@[simp] theorem State.freeSlot_nextTx (k : Nat) (g : Gather) : (s.freeSlot k g).nextTx = s.nextTx := rfl
@[simp] theorem State.freeSlot_lklTx (k : Nat) (g : Gather) : (s.freeSlot k g).lklTx = s.lklTx := rfl
@[simp] theorem State.freeSlot_windows (k : Nat) (g : Gather) : (s.freeSlot k g).windows = s.windows := rfl
@[simp] theorem State.freeSlot_ports (k : Nat) (g : Gather) : (s.freeSlot k g).ports = s.ports := rfl
@[simp] theorem State.freeSlot_emq (k : Nat) (g : Gather) : (s.freeSlot k g).emq = s.emq := rfl
@[simp] theorem State.freeSlot_pointer (k : Nat) (g : Gather) : (s.freeSlot k g).pointer = s.pointer := rfl
@[simp] theorem State.freeSlot_profiles (k : Nat) (g : Gather) : (s.freeSlot k g).profiles = s.profiles := rfl
@[simp] theorem State.freeSlot_meters (k : Nat) (g : Gather) : (s.freeSlot k g).meters = s.meters := rfl
@[simp] theorem State.freeSlot_command (k : Nat) (g : Gather) : (s.freeSlot k g).command = s.command := rfl
@[simp] theorem State.freeSlot_result (k : Nat) (g : Gather) : (s.freeSlot k g).result = s.result := rfl
@[simp] theorem State.freeSlot_select (k : Nat) (g : Gather) : (s.freeSlot k g).select = s.select := rfl
@[simp] theorem State.freeSlot_attn (k : Nat) (g : Gather) : (s.freeSlot k g).attn = s.attn := rfl
@[simp] theorem State.freeSlot_attnEnable (k : Nat) (g : Gather) : (s.freeSlot k g).attnEnable = s.attnEnable := rfl
@[simp] theorem State.freeSlot_poolLowMark (k : Nat) (g : Gather) : (s.freeSlot k g).poolLowMark = s.poolLowMark := rfl
@[simp] theorem State.freeSlot_readData (k : Nat) (g : Gather) : (s.freeSlot k g).readData = s.readData := rfl
@[simp] theorem State.freeSlot_freeIndex (k : Nat) (g : Gather) : (s.freeSlot k g).freeIndex = s.freeIndex := rfl
@[simp] theorem State.freeSlot_pending (k : Nat) (g : Gather) : (s.freeSlot k g).pending = s.pending := rfl

@[simp] theorem State.refuseTake_timebase : (s.refuseTake).timebase = s.timebase := rfl
@[simp] theorem State.refuseTake_link : (s.refuseTake).link = s.link := rfl
@[simp] theorem State.refuseTake_queryFifo : (s.refuseTake).queryFifo = s.queryFifo := rfl
@[simp] theorem State.refuseTake_answerFifo : (s.refuseTake).answerFifo = s.answerFifo := rfl
@[simp] theorem State.refuseTake_credit : (s.refuseTake).credit = s.credit := rfl
@[simp] theorem State.refuseTake_nextTx : (s.refuseTake).nextTx = s.nextTx := rfl
@[simp] theorem State.refuseTake_lklTx : (s.refuseTake).lklTx = s.lklTx := rfl
@[simp] theorem State.refuseTake_windows : (s.refuseTake).windows = s.windows := rfl
@[simp] theorem State.refuseTake_slots : (s.refuseTake).slots = s.slots := rfl
@[simp] theorem State.refuseTake_free : (s.refuseTake).free = s.free := rfl
@[simp] theorem State.refuseTake_ports : (s.refuseTake).ports = s.ports := rfl
@[simp] theorem State.refuseTake_emq : (s.refuseTake).emq = s.emq := rfl
@[simp] theorem State.refuseTake_pointer : (s.refuseTake).pointer = s.pointer := rfl
@[simp] theorem State.refuseTake_profiles : (s.refuseTake).profiles = s.profiles := rfl
@[simp] theorem State.refuseTake_meters : (s.refuseTake).meters = s.meters := rfl
@[simp] theorem State.refuseTake_command : (s.refuseTake).command = s.command := rfl
@[simp] theorem State.refuseTake_result : (s.refuseTake).result = s.result := rfl
@[simp] theorem State.refuseTake_select : (s.refuseTake).select = s.select := rfl
@[simp] theorem State.refuseTake_attnEnable : (s.refuseTake).attnEnable = s.attnEnable := rfl
@[simp] theorem State.refuseTake_poolLowMark : (s.refuseTake).poolLowMark = s.poolLowMark := rfl
@[simp] theorem State.refuseTake_readData : (s.refuseTake).readData = s.readData := rfl
@[simp] theorem State.refuseTake_freeIndex : (s.refuseTake).freeIndex = s.freeIndex := rfl
@[simp] theorem State.refuseTake_pending : (s.refuseTake).pending = s.pending := rfl

@[simp] theorem State.popQuery_timebase : (s.popQuery).timebase = s.timebase := rfl
@[simp] theorem State.popQuery_link : (s.popQuery).link = s.link := rfl
@[simp] theorem State.popQuery_answerFifo : (s.popQuery).answerFifo = s.answerFifo := rfl
@[simp] theorem State.popQuery_credit : (s.popQuery).credit = s.credit := rfl
@[simp] theorem State.popQuery_nextTx : (s.popQuery).nextTx = s.nextTx := rfl
@[simp] theorem State.popQuery_lklTx : (s.popQuery).lklTx = s.lklTx := rfl
@[simp] theorem State.popQuery_windows : (s.popQuery).windows = s.windows := rfl
@[simp] theorem State.popQuery_slots : (s.popQuery).slots = s.slots := rfl
@[simp] theorem State.popQuery_free : (s.popQuery).free = s.free := rfl
@[simp] theorem State.popQuery_ports : (s.popQuery).ports = s.ports := rfl
@[simp] theorem State.popQuery_emq : (s.popQuery).emq = s.emq := rfl
@[simp] theorem State.popQuery_pointer : (s.popQuery).pointer = s.pointer := rfl
@[simp] theorem State.popQuery_profiles : (s.popQuery).profiles = s.profiles := rfl
@[simp] theorem State.popQuery_meters : (s.popQuery).meters = s.meters := rfl
@[simp] theorem State.popQuery_command : (s.popQuery).command = s.command := rfl
@[simp] theorem State.popQuery_result : (s.popQuery).result = s.result := rfl
@[simp] theorem State.popQuery_select : (s.popQuery).select = s.select := rfl
@[simp] theorem State.popQuery_attn : (s.popQuery).attn = s.attn := rfl
@[simp] theorem State.popQuery_attnEnable : (s.popQuery).attnEnable = s.attnEnable := rfl
@[simp] theorem State.popQuery_poolLowMark : (s.popQuery).poolLowMark = s.poolLowMark := rfl
@[simp] theorem State.popQuery_readData : (s.popQuery).readData = s.readData := rfl
@[simp] theorem State.popQuery_freeIndex : (s.popQuery).freeIndex = s.freeIndex := rfl
@[simp] theorem State.popQuery_pending : (s.popQuery).pending = s.pending := rfl

@[simp] theorem State.appendAnswer_timebase (a : Answer) : (s.appendAnswer a).timebase = s.timebase := rfl
@[simp] theorem State.appendAnswer_link (a : Answer) : (s.appendAnswer a).link = s.link := rfl
@[simp] theorem State.appendAnswer_queryFifo (a : Answer) : (s.appendAnswer a).queryFifo = s.queryFifo := rfl
@[simp] theorem State.appendAnswer_credit (a : Answer) : (s.appendAnswer a).credit = s.credit := rfl
@[simp] theorem State.appendAnswer_nextTx (a : Answer) : (s.appendAnswer a).nextTx = s.nextTx := rfl
@[simp] theorem State.appendAnswer_lklTx (a : Answer) : (s.appendAnswer a).lklTx = s.lklTx := rfl
@[simp] theorem State.appendAnswer_windows (a : Answer) : (s.appendAnswer a).windows = s.windows := rfl
@[simp] theorem State.appendAnswer_slots (a : Answer) : (s.appendAnswer a).slots = s.slots := rfl
@[simp] theorem State.appendAnswer_free (a : Answer) : (s.appendAnswer a).free = s.free := rfl
@[simp] theorem State.appendAnswer_ports (a : Answer) : (s.appendAnswer a).ports = s.ports := rfl
@[simp] theorem State.appendAnswer_emq (a : Answer) : (s.appendAnswer a).emq = s.emq := rfl
@[simp] theorem State.appendAnswer_pointer (a : Answer) : (s.appendAnswer a).pointer = s.pointer := rfl
@[simp] theorem State.appendAnswer_profiles (a : Answer) : (s.appendAnswer a).profiles = s.profiles := rfl
@[simp] theorem State.appendAnswer_meters (a : Answer) : (s.appendAnswer a).meters = s.meters := rfl
@[simp] theorem State.appendAnswer_command (a : Answer) : (s.appendAnswer a).command = s.command := rfl
@[simp] theorem State.appendAnswer_result (a : Answer) : (s.appendAnswer a).result = s.result := rfl
@[simp] theorem State.appendAnswer_select (a : Answer) : (s.appendAnswer a).select = s.select := rfl
@[simp] theorem State.appendAnswer_attn (a : Answer) : (s.appendAnswer a).attn = s.attn := rfl
@[simp] theorem State.appendAnswer_attnEnable (a : Answer) : (s.appendAnswer a).attnEnable = s.attnEnable := rfl
@[simp] theorem State.appendAnswer_poolLowMark (a : Answer) : (s.appendAnswer a).poolLowMark = s.poolLowMark := rfl
@[simp] theorem State.appendAnswer_readData (a : Answer) : (s.appendAnswer a).readData = s.readData := rfl
@[simp] theorem State.appendAnswer_freeIndex (a : Answer) : (s.appendAnswer a).freeIndex = s.freeIndex := rfl
@[simp] theorem State.appendAnswer_pending (a : Answer) : (s.appendAnswer a).pending = s.pending := rfl

@[simp] theorem State.block_timebase (p : Nat) : (s.block p).timebase = s.timebase := rfl
@[simp] theorem State.block_link (p : Nat) : (s.block p).link = s.link := rfl
@[simp] theorem State.block_queryFifo (p : Nat) : (s.block p).queryFifo = s.queryFifo := rfl
@[simp] theorem State.block_answerFifo (p : Nat) : (s.block p).answerFifo = s.answerFifo := rfl
@[simp] theorem State.block_credit (p : Nat) : (s.block p).credit = s.credit := rfl
@[simp] theorem State.block_nextTx (p : Nat) : (s.block p).nextTx = s.nextTx := rfl
@[simp] theorem State.block_lklTx (p : Nat) : (s.block p).lklTx = s.lklTx := rfl
@[simp] theorem State.block_windows (p : Nat) : (s.block p).windows = s.windows := rfl
@[simp] theorem State.block_slots (p : Nat) : (s.block p).slots = s.slots := rfl
@[simp] theorem State.block_free (p : Nat) : (s.block p).free = s.free := rfl
@[simp] theorem State.block_emq (p : Nat) : (s.block p).emq = s.emq := rfl
@[simp] theorem State.block_pointer (p : Nat) : (s.block p).pointer = s.pointer := rfl
@[simp] theorem State.block_profiles (p : Nat) : (s.block p).profiles = s.profiles := rfl
@[simp] theorem State.block_meters (p : Nat) : (s.block p).meters = s.meters := rfl
@[simp] theorem State.block_command (p : Nat) : (s.block p).command = s.command := rfl
@[simp] theorem State.block_result (p : Nat) : (s.block p).result = s.result := rfl
@[simp] theorem State.block_select (p : Nat) : (s.block p).select = s.select := rfl
@[simp] theorem State.block_attn (p : Nat) : (s.block p).attn = s.attn := rfl
@[simp] theorem State.block_attnEnable (p : Nat) : (s.block p).attnEnable = s.attnEnable := rfl
@[simp] theorem State.block_poolLowMark (p : Nat) : (s.block p).poolLowMark = s.poolLowMark := rfl
@[simp] theorem State.block_readData (p : Nat) : (s.block p).readData = s.readData := rfl
@[simp] theorem State.block_freeIndex (p : Nat) : (s.block p).freeIndex = s.freeIndex := rfl
@[simp] theorem State.block_pending (p : Nat) : (s.block p).pending = s.pending := rfl

@[simp] theorem State.handTo_timebase (p : Nat) : (s.handTo p).timebase = s.timebase := rfl
@[simp] theorem State.handTo_link (p : Nat) : (s.handTo p).link = s.link := rfl
@[simp] theorem State.handTo_queryFifo (p : Nat) : (s.handTo p).queryFifo = s.queryFifo := rfl
@[simp] theorem State.handTo_answerFifo (p : Nat) : (s.handTo p).answerFifo = s.answerFifo := rfl
@[simp] theorem State.handTo_credit (p : Nat) : (s.handTo p).credit = s.credit := rfl
@[simp] theorem State.handTo_nextTx (p : Nat) : (s.handTo p).nextTx = s.nextTx := rfl
@[simp] theorem State.handTo_lklTx (p : Nat) : (s.handTo p).lklTx = s.lklTx := rfl
@[simp] theorem State.handTo_windows (p : Nat) : (s.handTo p).windows = s.windows := rfl
@[simp] theorem State.handTo_slots (p : Nat) : (s.handTo p).slots = s.slots := rfl
@[simp] theorem State.handTo_free (p : Nat) : (s.handTo p).free = s.free := rfl
@[simp] theorem State.handTo_emq (p : Nat) : (s.handTo p).emq = s.emq := rfl
@[simp] theorem State.handTo_profiles (p : Nat) : (s.handTo p).profiles = s.profiles := rfl
@[simp] theorem State.handTo_meters (p : Nat) : (s.handTo p).meters = s.meters := rfl
@[simp] theorem State.handTo_command (p : Nat) : (s.handTo p).command = s.command := rfl
@[simp] theorem State.handTo_result (p : Nat) : (s.handTo p).result = s.result := rfl
@[simp] theorem State.handTo_select (p : Nat) : (s.handTo p).select = s.select := rfl
@[simp] theorem State.handTo_attn (p : Nat) : (s.handTo p).attn = s.attn := rfl
@[simp] theorem State.handTo_attnEnable (p : Nat) : (s.handTo p).attnEnable = s.attnEnable := rfl
@[simp] theorem State.handTo_poolLowMark (p : Nat) : (s.handTo p).poolLowMark = s.poolLowMark := rfl
@[simp] theorem State.handTo_readData (p : Nat) : (s.handTo p).readData = s.readData := rfl
@[simp] theorem State.handTo_freeIndex (p : Nat) : (s.handTo p).freeIndex = s.freeIndex := rfl
@[simp] theorem State.handTo_pending (p : Nat) : (s.handTo p).pending = s.pending := rfl

@[simp] theorem State.finishCommand_timebase (code port : BitVec 8) (tag : Tag) (r : Result) : (s.finishCommand code port tag r).timebase = s.timebase := rfl
@[simp] theorem State.finishCommand_link (code port : BitVec 8) (tag : Tag) (r : Result) : (s.finishCommand code port tag r).link = s.link := rfl
@[simp] theorem State.finishCommand_queryFifo (code port : BitVec 8) (tag : Tag) (r : Result) : (s.finishCommand code port tag r).queryFifo = s.queryFifo := rfl
@[simp] theorem State.finishCommand_answerFifo (code port : BitVec 8) (tag : Tag) (r : Result) : (s.finishCommand code port tag r).answerFifo = s.answerFifo := rfl
@[simp] theorem State.finishCommand_credit (code port : BitVec 8) (tag : Tag) (r : Result) : (s.finishCommand code port tag r).credit = s.credit := rfl
@[simp] theorem State.finishCommand_nextTx (code port : BitVec 8) (tag : Tag) (r : Result) : (s.finishCommand code port tag r).nextTx = s.nextTx := rfl
@[simp] theorem State.finishCommand_lklTx (code port : BitVec 8) (tag : Tag) (r : Result) : (s.finishCommand code port tag r).lklTx = s.lklTx := rfl
@[simp] theorem State.finishCommand_windows (code port : BitVec 8) (tag : Tag) (r : Result) : (s.finishCommand code port tag r).windows = s.windows := rfl
@[simp] theorem State.finishCommand_slots (code port : BitVec 8) (tag : Tag) (r : Result) : (s.finishCommand code port tag r).slots = s.slots := rfl
@[simp] theorem State.finishCommand_free (code port : BitVec 8) (tag : Tag) (r : Result) : (s.finishCommand code port tag r).free = s.free := rfl
@[simp] theorem State.finishCommand_ports (code port : BitVec 8) (tag : Tag) (r : Result) : (s.finishCommand code port tag r).ports = s.ports := rfl
@[simp] theorem State.finishCommand_emq (code port : BitVec 8) (tag : Tag) (r : Result) : (s.finishCommand code port tag r).emq = s.emq := rfl
@[simp] theorem State.finishCommand_pointer (code port : BitVec 8) (tag : Tag) (r : Result) : (s.finishCommand code port tag r).pointer = s.pointer := rfl
@[simp] theorem State.finishCommand_profiles (code port : BitVec 8) (tag : Tag) (r : Result) : (s.finishCommand code port tag r).profiles = s.profiles := rfl
@[simp] theorem State.finishCommand_meters (code port : BitVec 8) (tag : Tag) (r : Result) : (s.finishCommand code port tag r).meters = s.meters := rfl
@[simp] theorem State.finishCommand_select (code port : BitVec 8) (tag : Tag) (r : Result) : (s.finishCommand code port tag r).select = s.select := rfl
@[simp] theorem State.finishCommand_attn (code port : BitVec 8) (tag : Tag) (r : Result) : (s.finishCommand code port tag r).attn = s.attn := rfl
@[simp] theorem State.finishCommand_attnEnable (code port : BitVec 8) (tag : Tag) (r : Result) : (s.finishCommand code port tag r).attnEnable = s.attnEnable := rfl
@[simp] theorem State.finishCommand_poolLowMark (code port : BitVec 8) (tag : Tag) (r : Result) : (s.finishCommand code port tag r).poolLowMark = s.poolLowMark := rfl
@[simp] theorem State.finishCommand_readData (code port : BitVec 8) (tag : Tag) (r : Result) : (s.finishCommand code port tag r).readData = s.readData := rfl
@[simp] theorem State.finishCommand_freeIndex (code port : BitVec 8) (tag : Tag) (r : Result) : (s.finishCommand code port tag r).freeIndex = s.freeIndex := rfl
@[simp] theorem State.finishCommand_pending (code port : BitVec 8) (tag : Tag) (r : Result) : (s.finishCommand code port tag r).pending = s.pending := rfl

@[simp] theorem State.advance_timebase : (s.advance).timebase = s.timebase := rfl
@[simp] theorem State.advance_link : (s.advance).link = s.link := rfl
@[simp] theorem State.advance_queryFifo : (s.advance).queryFifo = s.queryFifo := rfl
@[simp] theorem State.advance_answerFifo : (s.advance).answerFifo = s.answerFifo := rfl
@[simp] theorem State.advance_credit : (s.advance).credit = s.credit := rfl
@[simp] theorem State.advance_nextTx : (s.advance).nextTx = s.nextTx := rfl
@[simp] theorem State.advance_lklTx : (s.advance).lklTx = s.lklTx := rfl
@[simp] theorem State.advance_windows : (s.advance).windows = s.windows := rfl
@[simp] theorem State.advance_slots : (s.advance).slots = s.slots := rfl
@[simp] theorem State.advance_free : (s.advance).free = s.free := rfl
@[simp] theorem State.advance_ports : (s.advance).ports = s.ports := rfl
@[simp] theorem State.advance_emq : (s.advance).emq = s.emq := rfl
@[simp] theorem State.advance_pointer : (s.advance).pointer = s.pointer := rfl
@[simp] theorem State.advance_profiles : (s.advance).profiles = s.profiles := rfl
@[simp] theorem State.advance_meters : (s.advance).meters = s.meters := rfl
@[simp] theorem State.advance_command : (s.advance).command = s.command := rfl
@[simp] theorem State.advance_result : (s.advance).result = s.result := rfl
@[simp] theorem State.advance_attn : (s.advance).attn = s.attn := rfl
@[simp] theorem State.advance_attnEnable : (s.advance).attnEnable = s.attnEnable := rfl
@[simp] theorem State.advance_poolLowMark : (s.advance).poolLowMark = s.poolLowMark := rfl
@[simp] theorem State.advance_readData : (s.advance).readData = s.readData := rfl
@[simp] theorem State.advance_freeIndex : (s.advance).freeIndex = s.freeIndex := rfl
@[simp] theorem State.advance_pending : (s.advance).pending = s.pending := rfl

/-! ## The fields that the changes of a record leave -/

@[simp] theorem State.putGather_timebase (k : Nat) (old new : Gather) : (s.putGather k old new).timebase = s.timebase := by
  unfold State.putGather; dsimp only; split <;> split <;> rfl
@[simp] theorem State.putGather_link (k : Nat) (old new : Gather) : (s.putGather k old new).link = s.link := by
  unfold State.putGather; dsimp only; split <;> split <;> rfl
@[simp] theorem State.putGather_queryFifo (k : Nat) (old new : Gather) : (s.putGather k old new).queryFifo = s.queryFifo := by
  unfold State.putGather; dsimp only; split <;> split <;> rfl
@[simp] theorem State.putGather_answerFifo (k : Nat) (old new : Gather) : (s.putGather k old new).answerFifo = s.answerFifo := by
  unfold State.putGather; dsimp only; split <;> split <;> rfl
@[simp] theorem State.putGather_credit (k : Nat) (old new : Gather) : (s.putGather k old new).credit = s.credit := by
  unfold State.putGather; dsimp only; split <;> split <;> rfl
@[simp] theorem State.putGather_nextTx (k : Nat) (old new : Gather) : (s.putGather k old new).nextTx = s.nextTx := by
  unfold State.putGather; dsimp only; split <;> split <;> rfl
@[simp] theorem State.putGather_lklTx (k : Nat) (old new : Gather) : (s.putGather k old new).lklTx = s.lklTx := by
  unfold State.putGather; dsimp only; split <;> split <;> rfl
@[simp] theorem State.putGather_windows (k : Nat) (old new : Gather) : (s.putGather k old new).windows = s.windows := by
  unfold State.putGather; dsimp only; split <;> split <;> rfl
@[simp] theorem State.putGather_free (k : Nat) (old new : Gather) : (s.putGather k old new).free = s.free := by
  unfold State.putGather; dsimp only; split <;> split <;> rfl
@[simp] theorem State.putGather_emq (k : Nat) (old new : Gather) : (s.putGather k old new).emq = s.emq := by
  unfold State.putGather; dsimp only; split <;> split <;> rfl
@[simp] theorem State.putGather_pointer (k : Nat) (old new : Gather) : (s.putGather k old new).pointer = s.pointer := by
  unfold State.putGather; dsimp only; split <;> split <;> rfl
@[simp] theorem State.putGather_profiles (k : Nat) (old new : Gather) : (s.putGather k old new).profiles = s.profiles := by
  unfold State.putGather; dsimp only; split <;> split <;> rfl
@[simp] theorem State.putGather_meters (k : Nat) (old new : Gather) : (s.putGather k old new).meters = s.meters := by
  unfold State.putGather; dsimp only; split <;> split <;> rfl
@[simp] theorem State.putGather_command (k : Nat) (old new : Gather) : (s.putGather k old new).command = s.command := by
  unfold State.putGather; dsimp only; split <;> split <;> rfl
@[simp] theorem State.putGather_result (k : Nat) (old new : Gather) : (s.putGather k old new).result = s.result := by
  unfold State.putGather; dsimp only; split <;> split <;> rfl
@[simp] theorem State.putGather_select (k : Nat) (old new : Gather) : (s.putGather k old new).select = s.select := by
  unfold State.putGather; dsimp only; split <;> split <;> rfl
@[simp] theorem State.putGather_attn (k : Nat) (old new : Gather) : (s.putGather k old new).attn = s.attn := by
  unfold State.putGather; dsimp only; split <;> split <;> rfl
@[simp] theorem State.putGather_attnEnable (k : Nat) (old new : Gather) : (s.putGather k old new).attnEnable = s.attnEnable := by
  unfold State.putGather; dsimp only; split <;> split <;> rfl
@[simp] theorem State.putGather_poolLowMark (k : Nat) (old new : Gather) : (s.putGather k old new).poolLowMark = s.poolLowMark := by
  unfold State.putGather; dsimp only; split <;> split <;> rfl
@[simp] theorem State.putGather_readData (k : Nat) (old new : Gather) : (s.putGather k old new).readData = s.readData := by
  unfold State.putGather; dsimp only; split <;> split <;> rfl
@[simp] theorem State.putGather_freeIndex (k : Nat) (old new : Gather) : (s.putGather k old new).freeIndex = s.freeIndex := by
  unfold State.putGather; dsimp only; split <;> split <;> rfl
@[simp] theorem State.putGather_pending (k : Nat) (old new : Gather) : (s.putGather k old new).pending = s.pending := by
  unfold State.putGather; dsimp only; split <;> split <;> rfl

@[simp] theorem State.leaveActive_timebase (k : Nat) (g : Gather) : (s.leaveActive k g).timebase = s.timebase := by
  simp [State.leaveActive]
@[simp] theorem State.leaveActive_link (k : Nat) (g : Gather) : (s.leaveActive k g).link = s.link := by
  simp [State.leaveActive]
@[simp] theorem State.leaveActive_queryFifo (k : Nat) (g : Gather) : (s.leaveActive k g).queryFifo = s.queryFifo := by
  simp [State.leaveActive]
@[simp] theorem State.leaveActive_answerFifo (k : Nat) (g : Gather) : (s.leaveActive k g).answerFifo = s.answerFifo := by
  simp [State.leaveActive]
@[simp] theorem State.leaveActive_credit (k : Nat) (g : Gather) : (s.leaveActive k g).credit = s.credit := by
  simp [State.leaveActive]
@[simp] theorem State.leaveActive_nextTx (k : Nat) (g : Gather) : (s.leaveActive k g).nextTx = s.nextTx := by
  simp [State.leaveActive]
@[simp] theorem State.leaveActive_lklTx (k : Nat) (g : Gather) : (s.leaveActive k g).lklTx = s.lklTx := by
  simp [State.leaveActive]
@[simp] theorem State.leaveActive_windows (k : Nat) (g : Gather) : (s.leaveActive k g).windows = s.windows := by
  simp [State.leaveActive]
@[simp] theorem State.leaveActive_free (k : Nat) (g : Gather) : (s.leaveActive k g).free = s.free := by
  simp [State.leaveActive]
@[simp] theorem State.leaveActive_emq (k : Nat) (g : Gather) : (s.leaveActive k g).emq = s.emq := by
  simp [State.leaveActive]
@[simp] theorem State.leaveActive_pointer (k : Nat) (g : Gather) : (s.leaveActive k g).pointer = s.pointer := by
  simp [State.leaveActive]
@[simp] theorem State.leaveActive_profiles (k : Nat) (g : Gather) : (s.leaveActive k g).profiles = s.profiles := by
  simp [State.leaveActive]
@[simp] theorem State.leaveActive_meters (k : Nat) (g : Gather) : (s.leaveActive k g).meters = s.meters := by
  simp [State.leaveActive]
@[simp] theorem State.leaveActive_command (k : Nat) (g : Gather) : (s.leaveActive k g).command = s.command := by
  simp [State.leaveActive]
@[simp] theorem State.leaveActive_result (k : Nat) (g : Gather) : (s.leaveActive k g).result = s.result := by
  simp [State.leaveActive]
@[simp] theorem State.leaveActive_select (k : Nat) (g : Gather) : (s.leaveActive k g).select = s.select := by
  simp [State.leaveActive]
@[simp] theorem State.leaveActive_attn (k : Nat) (g : Gather) : (s.leaveActive k g).attn = s.attn := by
  simp [State.leaveActive]
@[simp] theorem State.leaveActive_attnEnable (k : Nat) (g : Gather) : (s.leaveActive k g).attnEnable = s.attnEnable := by
  simp [State.leaveActive]
@[simp] theorem State.leaveActive_poolLowMark (k : Nat) (g : Gather) : (s.leaveActive k g).poolLowMark = s.poolLowMark := by
  simp [State.leaveActive]
@[simp] theorem State.leaveActive_readData (k : Nat) (g : Gather) : (s.leaveActive k g).readData = s.readData := by
  simp [State.leaveActive]
@[simp] theorem State.leaveActive_freeIndex (k : Nat) (g : Gather) : (s.leaveActive k g).freeIndex = s.freeIndex := by
  simp [State.leaveActive]
@[simp] theorem State.leaveActive_pending (k : Nat) (g : Gather) : (s.leaveActive k g).pending = s.pending := by
  simp [State.leaveActive]

/-! ## The entries an update writes and those it leaves -/

@[simp] theorem State.port_setPort (p q : Nat) (v : Port) :
    (s.setPort p v).port q = if q = p then v else s.port q := Table.get_set ..

@[simp] theorem State.slot_setSlot (k j : Nat) (v : Slot) :
    (s.setSlot k v).slot j = if j = k then v else s.slot j := Table.get_set ..

@[simp] theorem State.slot_setGather (k j : Nat) (g : Gather) :
    (s.setGather k g).slot j = if j = k then ⟨(s.slot k).generation, some g⟩ else s.slot j := Table.get_set ..

@[simp] theorem State.gather?_setGather (k j : Nat) (g : Gather) :
    (s.setGather k g).gather? j = if j = k then some g else s.gather? j := by
  unfold State.gather?; rw [State.slot_setGather]; split <;> rfl

@[simp] theorem State.gather?_setSlot (k j : Nat) (v : Slot) :
    (s.setSlot k v).gather? j = if j = k then v.body else s.gather? j := by
  unfold State.gather?; rw [State.slot_setSlot]; split <;> rfl

@[simp] theorem State.slot_setPort (p : Nat) (v : Port) (k : Nat) : (s.setPort p v).slot k = s.slot k := rfl
@[simp] theorem State.gather?_setPort (p : Nat) (v : Port) (k : Nat) : (s.setPort p v).gather? k = s.gather? k := rfl
@[simp] theorem State.port_setSlot (k : Nat) (v : Slot) (p : Nat) : (s.setSlot k v).port p = s.port p := rfl
@[simp] theorem State.port_setGather (k : Nat) (g : Gather) (p : Nat) : (s.setGather k g).port p = s.port p := rfl

@[simp] theorem Port.queue_setQueue (pt : Port) (c c' : Nat) (q : List Nat) :
    (pt.setQueue c q).queue c' = if c' = c then q else pt.queue c' := Table.get_set ..

/-- A port with a class queue replaced differs in its queues alone. -/
theorem Port.setQueue_frame (pt : Port) (c : Nat) (q : List Nat) :
    { pt.setQueue c q with queues := pt.queues } = pt := rfl

/-- Two writes of one port: the second stands. -/
@[simp] theorem State.setPort_setPort (p : Nat) (v w : Port) : (s.setPort p v).setPort p w = s.setPort p w := by
  unfold State.setPort; dsimp only; rw [Table.set_set]

/-- Two writes of one slot: the second stands. -/
@[simp] theorem State.setSlot_setSlot (k : Nat) (v w : Slot) : (s.setSlot k v).setSlot k w = s.setSlot k w := by
  unfold State.setSlot; dsimp only; rw [Table.set_set]

@[simp] theorem State.setGather_setGather (k : Nat) (g h : Gather) :
    (s.setGather k g).setGather k h = s.setGather k h := by
  unfold State.setGather; simp

theorem State.meter_setMeter (i j : Nat) (m : Meter) :
    (s.setMeter i m).meter j = if j = i then m else s.meter j := Table.get_set ..

end Sys2Proof.Machine
end

