-- ==== Sys2Proof/Laws/Meters.lean ====
section
/-! SUPPORT. The laws of the Meter Bank's operations (R165 to R169): what each meter reads as after one, and the attention
an offer may raise. -/

namespace Sys2Proof.Machine

/-- A change of each of the sixteen meters, meter by meter. -/
theorem get_mapMeters (f : Meter → Meter) (bank : Table Meter) (i : Nat) :
    Table.get Meter.reset (mapMeters f bank) i =
      if i < 16 then f (Table.get Meter.reset bank i) else Table.get Meter.reset bank i := by
  have key : ∀ n, Table.get Meter.reset ((List.range n).foldl
      (fun b k => Table.set Meter.reset b k (f (Table.get Meter.reset b k))) bank) i =
      if i < n then f (Table.get Meter.reset bank i) else Table.get Meter.reset bank i := by
    intro n
    induction n with
    | zero => simp
    | succ n ih =>
      rw [List.range_succ, List.foldl_append, List.foldl_cons, List.foldl_nil, Table.get_set]
      rcases Nat.lt_trichotomy i n with h | h | h
      · rw [if_neg (Nat.ne_of_lt h), ih]; simp [h, Nat.lt_succ_of_lt h]
      · subst h; rw [ih]; simp
      · rw [if_neg (Nat.ne_of_gt h), ih]; simp [Nat.not_lt.2 (Nat.le_of_lt h), Nat.not_lt.2 h]
  exact key 16

/-- A change of the meters keeps the canonical form of the bank. -/
theorem mapMeters_wf (f : Meter → Meter) (bank : Table Meter) (h : Table.wf Meter.reset bank) :
    Table.wf Meter.reset (mapMeters f bank) := by
  have key : ∀ (l : List Nat) (b : Table Meter), Table.wf Meter.reset b → Table.wf Meter.reset
      (l.foldl (fun b k => Table.set Meter.reset b k (f (Table.get Meter.reset b k))) b) := by
    intro l
    induction l with
    | nil => exact fun b hb => hb
    | cons k l ih => exact fun b hb => ih _ (Table.wf_set _ _ _ _ hb)
  exact key _ _ h

variable (s : State)

theorem State.meter_mapMeters (f : Meter → Meter) (i : Nat) :
    (s.mapMeters f).meter i = if i < 16 then f (s.meter i) else s.meter i := get_mapMeters f s.meters i

/-- What an offer for one port field does to each meter (R165, R169). -/
theorem State.meter_offerTo (sel : BitVec 6) (ev : MeterEvent) (inc i : Nat) :
    (s.offerTo sel ev inc).meter i =
      if i < 16 ∧ (s.meter i).accepts sel ev = true then (s.meter i).add inc else s.meter i := by
  simp only [State.meter, State.offerTo, get_mapMeters]
  by_cases h1 : i < 16 <;> simp [h1]

/-- An offer raises METER_OVERFLOW or leaves the attention summary (R169). -/
theorem State.attn_offerTo (sel : BitVec 6) (ev : MeterEvent) (inc : Nat) :
    (s.offerTo sel ev inc).attn = s.attn ∨ (s.offerTo sel ev inc).attn = s.attn ||| AttnSource.meterOverflow.bit := by
  simp only [State.offerTo]
  split
  · exact .inr rfl
  · exact .inl rfl

theorem State.attn_offer (p : Nat) (ev : MeterEvent) (inc : Nat) :
    (s.offer p ev inc).attn = s.attn ∨ (s.offer p ev inc).attn = s.attn ||| AttnSource.meterOverflow.bit := by
  rw [State.offer]
  rcases State.attn_offerTo s (BitVec.ofNat 6 p) ev inc with h | h <;>
    rcases State.attn_offerTo (s.offerTo (BitVec.ofNat 6 p) ev inc) meterAll ev inc with h' | h' <;>
    rw [h', h] <;> simp [BitVec.or_assoc]

end Sys2Proof.Machine
end

