-- ==== Sys2Proof/Laws/Sched.lean ====
section
/-! SUPPORT. The laws of the Draw Schedulers and the Emission Arbiter: a property that an issue and a block keep is kept by a
pass, by the passes of an event, by a handing and by the serving of a link reset; and the fields they leave. -/

namespace Sys2Proof.Machine

/-- The steps of a pass keep what an issue of the head draw and a block keep. -/
theorem State.passSteps_keeps (p : Nat) (P : State → Prop)
    (issue : ∀ s d, P s → s.headDraw p = some d → (s.port p).outstanding + d.cells ≤ (s.port p).flight →
      s.emq.length < 256 → P (s.issue p d))
    (block : ∀ s d, P s → s.headDraw p = some d → (s.port p).outstanding + d.cells ≤ (s.port p).flight →
      256 ≤ s.emq.length → P (s.block p)) :
    ∀ n s, P s → P (s.passSteps p n) := by
  intro n
  induction n with
  | zero => exact fun s h => h
  | succ n ih =>
    intro s h
    unfold State.passSteps
    split
    · exact h
    · rename_i d hd
      split
      · exact h
      · split
        · exact ih _ (issue s d h hd (by omega) (by assumption))
        · rename_i hlen
          exact block s d h hd (by omega) (by simp only [Config.emissionPlaces] at hlen; omega)

/-- A pass keeps what an issue of the head draw and a block keep. -/
theorem State.drawPass_keeps (p : Nat) (P : State → Prop)
    (issue : ∀ s d, P s → s.headDraw p = some d → (s.port p).outstanding + d.cells ≤ (s.port p).flight →
      s.emq.length < 256 → P (s.issue p d))
    (block : ∀ s d, P s → s.headDraw p = some d → (s.port p).outstanding + d.cells ≤ (s.port p).flight →
      256 ≤ s.emq.length → P (s.block p)) (s : State) (h : P s) : P (s.drawPass p) :=
  State.passSteps_keeps p P issue block _ s h

theorem State.passIf_keeps (call : Bool) (p : Nat) (P : State → Prop) (pass : ∀ s, P s → P (s.drawPass p)) (s : State)
    (h : P s) : P (s.passIf call p) := by
  unfold State.passIf
  split
  · exact pass s h
  · exact h

theorem roundRobin_lt (pointer p : Nat) (h : p ∈ roundRobin pointer) : p < 48 := by
  simp only [roundRobin, List.mem_map, Config.ports] at h
  obtain ⟨i, _, rfl⟩ := h
  exact Nat.mod_lt _ (by decide)

/-- Every port stands in the round-robin order. -/
theorem mem_roundRobin (pointer p : Nat) (h : p < 48) : p ∈ roundRobin pointer := by
  refine List.mem_map.2 ⟨(p + 47 * (pointer + 1)) % 48, List.mem_range.2 (Nat.mod_lt _ (by decide)), ?_⟩
  simp only [Config.ports]; omega

/-- The round-robin order is that of the distance from the pointer. -/
theorem roundRobin_sooner (pointer : Nat) (h : pointer < 48) :
    (roundRobin pointer).Pairwise fun p q => (p + 47 - pointer) % 48 < (q + 47 - pointer) % 48 := by
  refine List.pairwise_map.2 (List.pairwise_lt_range.imp_of_mem fun {i j} hi hj hij => ?_)
  simp only [Config.ports, List.mem_range] at hi hj ⊢
  have key : ∀ i, i < 48 → ((pointer + 1 + i) % 48 + 47 - pointer) % 48 = i := fun i _ => by omega
  rw [key i hi, key j hj]; exact hij

/-- The passes of an event keep what each pass keeps. -/
theorem State.passes_keeps (called : List Nat) (P : State → Prop)
    (pass : ∀ s p, p < 48 → p ∈ called → P s → P (s.drawPass p)) (s : State) (h : P s) : P (s.passes called) := by
  have key : ∀ l : List Nat, (∀ p ∈ l, p < 48 ∧ p ∈ called) → ∀ t, P t → P (l.foldl (fun s p => s.drawPass p) t) := by
    intro l
    induction l with
    | nil => exact fun _ t ht => ht
    | cons p l ih =>
      exact fun hl t ht => ih (fun q hq => hl q (by simp [hq])) _ (pass t p (hl p (by simp)).1 (hl p (by simp)).2 ht)
  refine key _ (fun p hp => ?_) s h
  rw [List.mem_filter] at hp
  exact ⟨roundRobin_lt _ _ hp.1, of_decide_eq_true hp.2⟩

/-- A handing keeps what the move of the pointer to a blocked port and a pass keep. -/
theorem State.handPlace_keeps (p : Nat) (call : Bool) (P : State → Prop)
    (hand : ∀ s h, h < 48 → (s.port h).blocked = true → P s → P (s.handTo h))
    (pass : ∀ s q, P s → P (s.drawPass q)) (s : State) (h : P s) : P (s.handPlace p call) := by
  unfold State.handPlace
  split
  · exact State.passIf_keeps _ _ P (fun s => pass s p) s h
  · rename_i q hq
    have hq1 := List.find?_some hq
    have hq2 := roundRobin_lt _ _ (List.mem_of_find?_eq_some hq)
    exact State.passIf_keeps _ _ P (fun s => pass s p) _ (pass _ _ (hand s q hq2 hq1 h))

/-- The serving of a link reset keeps what the move of the pointer to a blocked port and a pass keep. -/
theorem State.serveAll_keeps (called : List Nat) (P : State → Prop)
    (hand : ∀ s h, h < 48 → (s.port h).blocked = true → P s → P (s.handTo h))
    (pass : ∀ s q, q < 48 → P s → P (s.drawPass q)) (s : State) (h : P s) : P (s.serveAll called) := by
  have key : ∀ l : List Nat, (∀ p ∈ l, p < 48) → ∀ t, P t → P (l.foldl State.serve t) := by
    intro l
    induction l with
    | nil => exact fun _ t ht => ht
    | cons p l ih =>
      intro hl t ht
      refine ih (fun q hq => hl q (by simp [hq])) _ ?_
      have hp := hl p (by simp)
      unfold State.serve
      split
      · exact pass _ _ hp (hand t p hp (by assumption) ht)
      · exact pass _ _ hp ht
  refine key _ (fun p hp => ?_) s h
  rw [List.mem_filter] at hp
  exact roundRobin_lt _ _ hp.1

/-! ## The fields that an issue, a block, a pass, the passes of an event, a handing and a serving leave -/

/-- The state but for what draws reach: the records, the ports, the Emission Queue, the meters, the attention summary and
the arbiter's pointer. -/
def State.apartFromDraws (s : State) : State :=
  { s with slots := [], ports := [], emq := [], meters := [], attn := 0#7, pointer := 0 }

theorem State.apart_timebase {s t : State} (h : t.apartFromDraws = s.apartFromDraws) : t.timebase = s.timebase :=
  show t.apartFromDraws.timebase = s.apartFromDraws.timebase by rw [h]
theorem State.apart_link {s t : State} (h : t.apartFromDraws = s.apartFromDraws) : t.link = s.link :=
  show t.apartFromDraws.link = s.apartFromDraws.link by rw [h]
theorem State.apart_queryFifo {s t : State} (h : t.apartFromDraws = s.apartFromDraws) : t.queryFifo = s.queryFifo :=
  show t.apartFromDraws.queryFifo = s.apartFromDraws.queryFifo by rw [h]
theorem State.apart_answerFifo {s t : State} (h : t.apartFromDraws = s.apartFromDraws) : t.answerFifo = s.answerFifo :=
  show t.apartFromDraws.answerFifo = s.apartFromDraws.answerFifo by rw [h]
theorem State.apart_credit {s t : State} (h : t.apartFromDraws = s.apartFromDraws) : t.credit = s.credit :=
  show t.apartFromDraws.credit = s.apartFromDraws.credit by rw [h]
theorem State.apart_nextTx {s t : State} (h : t.apartFromDraws = s.apartFromDraws) : t.nextTx = s.nextTx :=
  show t.apartFromDraws.nextTx = s.apartFromDraws.nextTx by rw [h]
theorem State.apart_lklTx {s t : State} (h : t.apartFromDraws = s.apartFromDraws) : t.lklTx = s.lklTx :=
  show t.apartFromDraws.lklTx = s.apartFromDraws.lklTx by rw [h]
theorem State.apart_windows {s t : State} (h : t.apartFromDraws = s.apartFromDraws) : t.windows = s.windows :=
  show t.apartFromDraws.windows = s.apartFromDraws.windows by rw [h]
theorem State.apart_free {s t : State} (h : t.apartFromDraws = s.apartFromDraws) : t.free = s.free :=
  show t.apartFromDraws.free = s.apartFromDraws.free by rw [h]
theorem State.apart_profiles {s t : State} (h : t.apartFromDraws = s.apartFromDraws) : t.profiles = s.profiles :=
  show t.apartFromDraws.profiles = s.apartFromDraws.profiles by rw [h]
theorem State.apart_command {s t : State} (h : t.apartFromDraws = s.apartFromDraws) : t.command = s.command :=
  show t.apartFromDraws.command = s.apartFromDraws.command by rw [h]
theorem State.apart_result {s t : State} (h : t.apartFromDraws = s.apartFromDraws) : t.result = s.result :=
  show t.apartFromDraws.result = s.apartFromDraws.result by rw [h]
theorem State.apart_select {s t : State} (h : t.apartFromDraws = s.apartFromDraws) : t.select = s.select :=
  show t.apartFromDraws.select = s.apartFromDraws.select by rw [h]
theorem State.apart_attnEnable {s t : State} (h : t.apartFromDraws = s.apartFromDraws) : t.attnEnable = s.attnEnable :=
  show t.apartFromDraws.attnEnable = s.apartFromDraws.attnEnable by rw [h]
theorem State.apart_poolLowMark {s t : State} (h : t.apartFromDraws = s.apartFromDraws) : t.poolLowMark = s.poolLowMark :=
  show t.apartFromDraws.poolLowMark = s.apartFromDraws.poolLowMark by rw [h]
theorem State.apart_readData {s t : State} (h : t.apartFromDraws = s.apartFromDraws) : t.readData = s.readData :=
  show t.apartFromDraws.readData = s.apartFromDraws.readData by rw [h]
theorem State.apart_freeIndex {s t : State} (h : t.apartFromDraws = s.apartFromDraws) : t.freeIndex = s.freeIndex :=
  show t.apartFromDraws.freeIndex = s.apartFromDraws.freeIndex by rw [h]
theorem State.apart_pending {s t : State} (h : t.apartFromDraws = s.apartFromDraws) : t.pending = s.pending :=
  show t.apartFromDraws.pending = s.apartFromDraws.pending by rw [h]

theorem State.issue_apart (s : State) (p : Nat) (d : Draw) : (s.issue p d).apartFromDraws = s.apartFromDraws := by
  simp [State.issue, State.apartFromDraws]

theorem State.block_apart (s : State) (p : Nat) : (s.block p).apartFromDraws = s.apartFromDraws := rfl

theorem State.handTo_apart (s : State) (p : Nat) : (s.handTo p).apartFromDraws = s.apartFromDraws := rfl

theorem State.issue_pointer (s : State) (p : Nat) (d : Draw) : (s.issue p d).pointer = s.pointer := by
  simp [State.issue]

/-- A pass leaves all but what draws reach (R128 to R134). -/
theorem State.drawPass_apart (s : State) (p : Nat) : (s.drawPass p).apartFromDraws = s.apartFromDraws :=
  State.drawPass_keeps p (fun t => t.apartFromDraws = s.apartFromDraws)
    (fun t d h _ _ _ => (State.issue_apart t p d).trans h) (fun t _ h _ _ _ => (State.block_apart t p).trans h) s rfl

/-- A pass leaves the arbiter's pointer (R128, R143). -/
@[simp] theorem State.drawPass_pointer (s : State) (p : Nat) : (s.drawPass p).pointer = s.pointer :=
  State.drawPass_keeps p (fun t => t.pointer = s.pointer)
    (fun t d h _ _ _ => (State.issue_pointer t p d).trans h) (fun _ _ h _ _ _ => h) s rfl

theorem State.passIf_apart (s : State) (call : Bool) (p : Nat) : (s.passIf call p).apartFromDraws = s.apartFromDraws :=
  State.passIf_keeps call p (fun t => t.apartFromDraws = s.apartFromDraws)
    (fun t h => (State.drawPass_apart t p).trans h) s rfl

theorem State.passes_apart (s : State) (called : List Nat) : (s.passes called).apartFromDraws = s.apartFromDraws :=
  State.passes_keeps called (fun t => t.apartFromDraws = s.apartFromDraws)
    (fun t p _ _ h => (State.drawPass_apart t p).trans h) s rfl

theorem State.handPlace_apart (s : State) (p : Nat) (call : Bool) :
    (s.handPlace p call).apartFromDraws = s.apartFromDraws :=
  State.handPlace_keeps p call (fun t => t.apartFromDraws = s.apartFromDraws)
    (fun t q _ _ h => (State.handTo_apart t q).trans h) (fun t q h => (State.drawPass_apart t q).trans h) s rfl

theorem State.serveAll_apart (s : State) (called : List Nat) : (s.serveAll called).apartFromDraws = s.apartFromDraws :=
  State.serveAll_keeps called (fun t => t.apartFromDraws = s.apartFromDraws)
    (fun t q _ _ h => (State.handTo_apart t q).trans h) (fun t q _ h => (State.drawPass_apart t q).trans h) s rfl

@[simp] theorem State.drawPass_timebase (s : State) (p : Nat) : (s.drawPass p).timebase = s.timebase :=
  State.apart_timebase (State.drawPass_apart s p)
@[simp] theorem State.drawPass_link (s : State) (p : Nat) : (s.drawPass p).link = s.link :=
  State.apart_link (State.drawPass_apart s p)
@[simp] theorem State.drawPass_queryFifo (s : State) (p : Nat) : (s.drawPass p).queryFifo = s.queryFifo :=
  State.apart_queryFifo (State.drawPass_apart s p)
@[simp] theorem State.drawPass_answerFifo (s : State) (p : Nat) : (s.drawPass p).answerFifo = s.answerFifo :=
  State.apart_answerFifo (State.drawPass_apart s p)
@[simp] theorem State.drawPass_credit (s : State) (p : Nat) : (s.drawPass p).credit = s.credit :=
  State.apart_credit (State.drawPass_apart s p)
@[simp] theorem State.drawPass_nextTx (s : State) (p : Nat) : (s.drawPass p).nextTx = s.nextTx :=
  State.apart_nextTx (State.drawPass_apart s p)
@[simp] theorem State.drawPass_lklTx (s : State) (p : Nat) : (s.drawPass p).lklTx = s.lklTx :=
  State.apart_lklTx (State.drawPass_apart s p)
@[simp] theorem State.drawPass_windows (s : State) (p : Nat) : (s.drawPass p).windows = s.windows :=
  State.apart_windows (State.drawPass_apart s p)
@[simp] theorem State.drawPass_free (s : State) (p : Nat) : (s.drawPass p).free = s.free :=
  State.apart_free (State.drawPass_apart s p)
@[simp] theorem State.drawPass_profiles (s : State) (p : Nat) : (s.drawPass p).profiles = s.profiles :=
  State.apart_profiles (State.drawPass_apart s p)
@[simp] theorem State.drawPass_command (s : State) (p : Nat) : (s.drawPass p).command = s.command :=
  State.apart_command (State.drawPass_apart s p)
@[simp] theorem State.drawPass_result (s : State) (p : Nat) : (s.drawPass p).result = s.result :=
  State.apart_result (State.drawPass_apart s p)
@[simp] theorem State.drawPass_select (s : State) (p : Nat) : (s.drawPass p).select = s.select :=
  State.apart_select (State.drawPass_apart s p)
@[simp] theorem State.drawPass_attnEnable (s : State) (p : Nat) : (s.drawPass p).attnEnable = s.attnEnable :=
  State.apart_attnEnable (State.drawPass_apart s p)
@[simp] theorem State.drawPass_poolLowMark (s : State) (p : Nat) : (s.drawPass p).poolLowMark = s.poolLowMark :=
  State.apart_poolLowMark (State.drawPass_apart s p)
@[simp] theorem State.drawPass_readData (s : State) (p : Nat) : (s.drawPass p).readData = s.readData :=
  State.apart_readData (State.drawPass_apart s p)
@[simp] theorem State.drawPass_freeIndex (s : State) (p : Nat) : (s.drawPass p).freeIndex = s.freeIndex :=
  State.apart_freeIndex (State.drawPass_apart s p)
@[simp] theorem State.drawPass_pending (s : State) (p : Nat) : (s.drawPass p).pending = s.pending :=
  State.apart_pending (State.drawPass_apart s p)

@[simp] theorem State.passIf_timebase (s : State) (call : Bool) (p : Nat) : (s.passIf call p).timebase = s.timebase :=
  State.apart_timebase (State.passIf_apart s call p)
@[simp] theorem State.passIf_link (s : State) (call : Bool) (p : Nat) : (s.passIf call p).link = s.link :=
  State.apart_link (State.passIf_apart s call p)
@[simp] theorem State.passIf_queryFifo (s : State) (call : Bool) (p : Nat) : (s.passIf call p).queryFifo = s.queryFifo :=
  State.apart_queryFifo (State.passIf_apart s call p)
@[simp] theorem State.passIf_answerFifo (s : State) (call : Bool) (p : Nat) : (s.passIf call p).answerFifo = s.answerFifo :=
  State.apart_answerFifo (State.passIf_apart s call p)
@[simp] theorem State.passIf_credit (s : State) (call : Bool) (p : Nat) : (s.passIf call p).credit = s.credit :=
  State.apart_credit (State.passIf_apart s call p)
@[simp] theorem State.passIf_nextTx (s : State) (call : Bool) (p : Nat) : (s.passIf call p).nextTx = s.nextTx :=
  State.apart_nextTx (State.passIf_apart s call p)
@[simp] theorem State.passIf_lklTx (s : State) (call : Bool) (p : Nat) : (s.passIf call p).lklTx = s.lklTx :=
  State.apart_lklTx (State.passIf_apart s call p)
@[simp] theorem State.passIf_windows (s : State) (call : Bool) (p : Nat) : (s.passIf call p).windows = s.windows :=
  State.apart_windows (State.passIf_apart s call p)
@[simp] theorem State.passIf_free (s : State) (call : Bool) (p : Nat) : (s.passIf call p).free = s.free :=
  State.apart_free (State.passIf_apart s call p)
@[simp] theorem State.passIf_profiles (s : State) (call : Bool) (p : Nat) : (s.passIf call p).profiles = s.profiles :=
  State.apart_profiles (State.passIf_apart s call p)
@[simp] theorem State.passIf_command (s : State) (call : Bool) (p : Nat) : (s.passIf call p).command = s.command :=
  State.apart_command (State.passIf_apart s call p)
@[simp] theorem State.passIf_result (s : State) (call : Bool) (p : Nat) : (s.passIf call p).result = s.result :=
  State.apart_result (State.passIf_apart s call p)
@[simp] theorem State.passIf_select (s : State) (call : Bool) (p : Nat) : (s.passIf call p).select = s.select :=
  State.apart_select (State.passIf_apart s call p)
@[simp] theorem State.passIf_attnEnable (s : State) (call : Bool) (p : Nat) : (s.passIf call p).attnEnable = s.attnEnable :=
  State.apart_attnEnable (State.passIf_apart s call p)
@[simp] theorem State.passIf_poolLowMark (s : State) (call : Bool) (p : Nat) : (s.passIf call p).poolLowMark = s.poolLowMark :=
  State.apart_poolLowMark (State.passIf_apart s call p)
@[simp] theorem State.passIf_readData (s : State) (call : Bool) (p : Nat) : (s.passIf call p).readData = s.readData :=
  State.apart_readData (State.passIf_apart s call p)
@[simp] theorem State.passIf_freeIndex (s : State) (call : Bool) (p : Nat) : (s.passIf call p).freeIndex = s.freeIndex :=
  State.apart_freeIndex (State.passIf_apart s call p)
@[simp] theorem State.passIf_pending (s : State) (call : Bool) (p : Nat) : (s.passIf call p).pending = s.pending :=
  State.apart_pending (State.passIf_apart s call p)

@[simp] theorem State.passes_timebase (s : State) (called : List Nat) : (s.passes called).timebase = s.timebase :=
  State.apart_timebase (State.passes_apart s called)
@[simp] theorem State.passes_link (s : State) (called : List Nat) : (s.passes called).link = s.link :=
  State.apart_link (State.passes_apart s called)
@[simp] theorem State.passes_queryFifo (s : State) (called : List Nat) : (s.passes called).queryFifo = s.queryFifo :=
  State.apart_queryFifo (State.passes_apart s called)
@[simp] theorem State.passes_answerFifo (s : State) (called : List Nat) : (s.passes called).answerFifo = s.answerFifo :=
  State.apart_answerFifo (State.passes_apart s called)
@[simp] theorem State.passes_credit (s : State) (called : List Nat) : (s.passes called).credit = s.credit :=
  State.apart_credit (State.passes_apart s called)
@[simp] theorem State.passes_nextTx (s : State) (called : List Nat) : (s.passes called).nextTx = s.nextTx :=
  State.apart_nextTx (State.passes_apart s called)
@[simp] theorem State.passes_lklTx (s : State) (called : List Nat) : (s.passes called).lklTx = s.lklTx :=
  State.apart_lklTx (State.passes_apart s called)
@[simp] theorem State.passes_windows (s : State) (called : List Nat) : (s.passes called).windows = s.windows :=
  State.apart_windows (State.passes_apart s called)
@[simp] theorem State.passes_free (s : State) (called : List Nat) : (s.passes called).free = s.free :=
  State.apart_free (State.passes_apart s called)
@[simp] theorem State.passes_profiles (s : State) (called : List Nat) : (s.passes called).profiles = s.profiles :=
  State.apart_profiles (State.passes_apart s called)
@[simp] theorem State.passes_command (s : State) (called : List Nat) : (s.passes called).command = s.command :=
  State.apart_command (State.passes_apart s called)
@[simp] theorem State.passes_result (s : State) (called : List Nat) : (s.passes called).result = s.result :=
  State.apart_result (State.passes_apart s called)
@[simp] theorem State.passes_select (s : State) (called : List Nat) : (s.passes called).select = s.select :=
  State.apart_select (State.passes_apart s called)
@[simp] theorem State.passes_attnEnable (s : State) (called : List Nat) : (s.passes called).attnEnable = s.attnEnable :=
  State.apart_attnEnable (State.passes_apart s called)
@[simp] theorem State.passes_poolLowMark (s : State) (called : List Nat) : (s.passes called).poolLowMark = s.poolLowMark :=
  State.apart_poolLowMark (State.passes_apart s called)
@[simp] theorem State.passes_readData (s : State) (called : List Nat) : (s.passes called).readData = s.readData :=
  State.apart_readData (State.passes_apart s called)
@[simp] theorem State.passes_freeIndex (s : State) (called : List Nat) : (s.passes called).freeIndex = s.freeIndex :=
  State.apart_freeIndex (State.passes_apart s called)
@[simp] theorem State.passes_pending (s : State) (called : List Nat) : (s.passes called).pending = s.pending :=
  State.apart_pending (State.passes_apart s called)

@[simp] theorem State.handPlace_timebase (s : State) (p : Nat) (call : Bool) : (s.handPlace p call).timebase = s.timebase :=
  State.apart_timebase (State.handPlace_apart s p call)
@[simp] theorem State.handPlace_link (s : State) (p : Nat) (call : Bool) : (s.handPlace p call).link = s.link :=
  State.apart_link (State.handPlace_apart s p call)
@[simp] theorem State.handPlace_queryFifo (s : State) (p : Nat) (call : Bool) : (s.handPlace p call).queryFifo = s.queryFifo :=
  State.apart_queryFifo (State.handPlace_apart s p call)
@[simp] theorem State.handPlace_answerFifo (s : State) (p : Nat) (call : Bool) : (s.handPlace p call).answerFifo = s.answerFifo :=
  State.apart_answerFifo (State.handPlace_apart s p call)
@[simp] theorem State.handPlace_credit (s : State) (p : Nat) (call : Bool) : (s.handPlace p call).credit = s.credit :=
  State.apart_credit (State.handPlace_apart s p call)
@[simp] theorem State.handPlace_nextTx (s : State) (p : Nat) (call : Bool) : (s.handPlace p call).nextTx = s.nextTx :=
  State.apart_nextTx (State.handPlace_apart s p call)
@[simp] theorem State.handPlace_lklTx (s : State) (p : Nat) (call : Bool) : (s.handPlace p call).lklTx = s.lklTx :=
  State.apart_lklTx (State.handPlace_apart s p call)
@[simp] theorem State.handPlace_windows (s : State) (p : Nat) (call : Bool) : (s.handPlace p call).windows = s.windows :=
  State.apart_windows (State.handPlace_apart s p call)
@[simp] theorem State.handPlace_free (s : State) (p : Nat) (call : Bool) : (s.handPlace p call).free = s.free :=
  State.apart_free (State.handPlace_apart s p call)
@[simp] theorem State.handPlace_profiles (s : State) (p : Nat) (call : Bool) : (s.handPlace p call).profiles = s.profiles :=
  State.apart_profiles (State.handPlace_apart s p call)
@[simp] theorem State.handPlace_command (s : State) (p : Nat) (call : Bool) : (s.handPlace p call).command = s.command :=
  State.apart_command (State.handPlace_apart s p call)
@[simp] theorem State.handPlace_result (s : State) (p : Nat) (call : Bool) : (s.handPlace p call).result = s.result :=
  State.apart_result (State.handPlace_apart s p call)
@[simp] theorem State.handPlace_select (s : State) (p : Nat) (call : Bool) : (s.handPlace p call).select = s.select :=
  State.apart_select (State.handPlace_apart s p call)
@[simp] theorem State.handPlace_attnEnable (s : State) (p : Nat) (call : Bool) : (s.handPlace p call).attnEnable = s.attnEnable :=
  State.apart_attnEnable (State.handPlace_apart s p call)
@[simp] theorem State.handPlace_poolLowMark (s : State) (p : Nat) (call : Bool) : (s.handPlace p call).poolLowMark = s.poolLowMark :=
  State.apart_poolLowMark (State.handPlace_apart s p call)
@[simp] theorem State.handPlace_readData (s : State) (p : Nat) (call : Bool) : (s.handPlace p call).readData = s.readData :=
  State.apart_readData (State.handPlace_apart s p call)
@[simp] theorem State.handPlace_freeIndex (s : State) (p : Nat) (call : Bool) : (s.handPlace p call).freeIndex = s.freeIndex :=
  State.apart_freeIndex (State.handPlace_apart s p call)
@[simp] theorem State.handPlace_pending (s : State) (p : Nat) (call : Bool) : (s.handPlace p call).pending = s.pending :=
  State.apart_pending (State.handPlace_apart s p call)

@[simp] theorem State.serveAll_timebase (s : State) (called : List Nat) : (s.serveAll called).timebase = s.timebase :=
  State.apart_timebase (State.serveAll_apart s called)
@[simp] theorem State.serveAll_link (s : State) (called : List Nat) : (s.serveAll called).link = s.link :=
  State.apart_link (State.serveAll_apart s called)
@[simp] theorem State.serveAll_queryFifo (s : State) (called : List Nat) : (s.serveAll called).queryFifo = s.queryFifo :=
  State.apart_queryFifo (State.serveAll_apart s called)
@[simp] theorem State.serveAll_answerFifo (s : State) (called : List Nat) : (s.serveAll called).answerFifo = s.answerFifo :=
  State.apart_answerFifo (State.serveAll_apart s called)
@[simp] theorem State.serveAll_credit (s : State) (called : List Nat) : (s.serveAll called).credit = s.credit :=
  State.apart_credit (State.serveAll_apart s called)
@[simp] theorem State.serveAll_nextTx (s : State) (called : List Nat) : (s.serveAll called).nextTx = s.nextTx :=
  State.apart_nextTx (State.serveAll_apart s called)
@[simp] theorem State.serveAll_lklTx (s : State) (called : List Nat) : (s.serveAll called).lklTx = s.lklTx :=
  State.apart_lklTx (State.serveAll_apart s called)
@[simp] theorem State.serveAll_windows (s : State) (called : List Nat) : (s.serveAll called).windows = s.windows :=
  State.apart_windows (State.serveAll_apart s called)
@[simp] theorem State.serveAll_free (s : State) (called : List Nat) : (s.serveAll called).free = s.free :=
  State.apart_free (State.serveAll_apart s called)
@[simp] theorem State.serveAll_profiles (s : State) (called : List Nat) : (s.serveAll called).profiles = s.profiles :=
  State.apart_profiles (State.serveAll_apart s called)
@[simp] theorem State.serveAll_command (s : State) (called : List Nat) : (s.serveAll called).command = s.command :=
  State.apart_command (State.serveAll_apart s called)
@[simp] theorem State.serveAll_result (s : State) (called : List Nat) : (s.serveAll called).result = s.result :=
  State.apart_result (State.serveAll_apart s called)
@[simp] theorem State.serveAll_select (s : State) (called : List Nat) : (s.serveAll called).select = s.select :=
  State.apart_select (State.serveAll_apart s called)
@[simp] theorem State.serveAll_attnEnable (s : State) (called : List Nat) : (s.serveAll called).attnEnable = s.attnEnable :=
  State.apart_attnEnable (State.serveAll_apart s called)
@[simp] theorem State.serveAll_poolLowMark (s : State) (called : List Nat) : (s.serveAll called).poolLowMark = s.poolLowMark :=
  State.apart_poolLowMark (State.serveAll_apart s called)
@[simp] theorem State.serveAll_readData (s : State) (called : List Nat) : (s.serveAll called).readData = s.readData :=
  State.apart_readData (State.serveAll_apart s called)
@[simp] theorem State.serveAll_freeIndex (s : State) (called : List Nat) : (s.serveAll called).freeIndex = s.freeIndex :=
  State.apart_freeIndex (State.serveAll_apart s called)
@[simp] theorem State.serveAll_pending (s : State) (called : List Nat) : (s.serveAll called).pending = s.pending :=
  State.apart_pending (State.serveAll_apart s called)

end Sys2Proof.Machine
end

