-- ==== Sys2Proof/Laws/Draws.lean ====
section
/-! SUPPORT. What a draw pass does, step by step (R129 to R133), and the draw at the head of a port. -/

namespace Sys2Proof.Machine

variable (s : State)

/-- A pass with no draw to try does nothing. -/
theorem State.drawPass_none (p : Nat) (h : s.headDraw p = none) : s.drawPass p = s := by
  unfold State.drawPass State.passSteps; rw [h]

/-- A pass ends where the draw would put O above F (R130). -/
theorem State.drawPass_over (p : Nat) (d : Draw) (h : s.headDraw p = some d)
    (ho : (s.port p).flight < (s.port p).outstanding + d.cells) : s.drawPass p = s := by
  unfold State.drawPass State.passSteps; rw [h]; exact if_pos ho

/-- A pass ends with the port blocked at a full Emission Queue (R131). -/
theorem State.drawPass_full (p : Nat) (d : Draw) (h : s.headDraw p = some d)
    (ho : (s.port p).outstanding + d.cells ≤ (s.port p).flight) (hf : 256 ≤ s.emq.length) :
    s.drawPass p = s.block p := by
  have hf' : ¬s.emq.length < Config.emissionPlaces := Nat.not_lt.2 hf
  unfold State.drawPass State.passSteps; rw [h]
  simp only [Nat.not_lt.2 ho, hf', ite_false]

@[simp] theorem State.issue_emq (p : Nat) (d : Draw) : (s.issue p d).emq = s.emq ++ [s.emissionOf p d] := by
  simp [State.issue]

/-- A pass issues the draw to try and goes on (R132, R133). -/
theorem State.drawPass_issue (p : Nat) (d : Draw) (h : s.headDraw p = some d)
    (ho : (s.port p).outstanding + d.cells ≤ (s.port p).flight) (hf : s.emq.length < 256) :
    s.drawPass p = (s.issue p d).drawPass p := by
  have hf' : s.emq.length < Config.emissionPlaces := hf
  have hn : Config.emissionPlaces - (s.issue p d).emq.length + 1 = Config.emissionPlaces - s.emq.length := by
    simp only [State.issue_emq, List.length_append, List.length_singleton]; omega
  unfold State.drawPass
  rw [hn]
  conv => lhs; unfold State.passSteps
  rw [h]
  simp only [Nat.not_lt.2 ho, hf', ite_false, ite_true]

/-- The highest eligible class with a queued gather (R127, R129). -/
theorem Port.topClass_eq (pt : Port) (c : Nat) (h1 : 1 ≤ c ∧ c ≤ 7 ∧ pt.effFloor < c) (hq : pt.queue c ≠ [])
    (high : ∀ c', c < c' → c' ≤ 7 → pt.queue c' = []) : pt.topClass = some c := by
  have key : ∀ f : Nat → Bool, f c = true → (∀ c', c < c' → c' ≤ 7 → f c' = false) →
      [7, 6, 5, 4, 3, 2, 1].find? f = some c := by
    intro f hc hn
    have : c = 1 ∨ c = 2 ∨ c = 3 ∨ c = 4 ∨ c = 5 ∨ c = 6 ∨ c = 7 := by omega
    rcases this with rfl | rfl | rfl | rfl | rfl | rfl | rfl <;> simp [List.find?, hc, hn]
  exact key _ (by simp [h1.2.2, hq]) fun c' h h' => by simp [high c' h h']

/-- There is no eligible class where no class above the effective floor has a queued gather. -/
theorem Port.topClass_none (pt : Port) (h : ∀ c, 1 ≤ c → c ≤ 7 → pt.effFloor < c → pt.queue c = []) :
    pt.topClass = none := by
  unfold Port.topClass
  rw [List.find?_eq_none]
  intro c hc
  have hc' : 1 ≤ c ∧ c ≤ 7 := by simp at hc; omega
  by_cases hf : pt.effFloor < c
  · simp [h c hc'.1 hc'.2 hf]
  · simp [hf]

/-- The draw at the head of a port is the draw to try. -/
theorem State.headDraw_eq {s : State} {p c k : Nat} {g : Gather} {m : Member} (h : s.HeadDraw p c k g m) :
    s.headDraw p = some ⟨c, k, g, m, m.drawSize (s.profileOf p)⟩ := by
  obtain ⟨e, he, hm⟩ := h.member
  have hq : (s.port p).queue c ≠ [] := by intro h0; have := h.slot; rw [h0] at this; simp at this
  unfold State.headDraw
  rw [Port.topClass_eq _ c h.cls hq h.highest]
  simp only [h.slot, h.record, he, hm]

end Sys2Proof.Machine
end

