-- ==== Sys2Proof/Laws/Pool.lean ====
section
/-! SUPPORT. The laws of the pool's free list (R69 to R71, R48): takes come from the head, returns go to the tail, and both
keep the canonical form of the list. -/

namespace Sys2Proof.Machine

@[simp] theorem freeEntries_nil : freeEntries [] = [] := rfl

theorem freeEntries_cons (a n : Nat) (f : List Run) :
    freeEntries (⟨a, n⟩ :: f) = List.range' a n ++ freeEntries f := by simp [freeEntries]

/-- The count of the free list is the number of its entries. -/
theorem freeCount_eq_length (f : List Run) : freeCount f = (freeEntries f).length := by
  induction f with
  | nil => rfl
  | cons r f ih =>
    rw [show r = ⟨r.first, r.count⟩ from rfl, freeEntries_cons, List.length_append, List.length_range', ← ih]
    simp [freeCount]

/-- A take from an empty free list is refused. -/
theorem takeFree_none (f : List Run) (h : freeEntries f = []) : takeFree f = none := by
  induction f with
  | nil => rfl
  | cons r f ih =>
    obtain ⟨a, n⟩ := r
    rw [freeEntries_cons] at h
    have h1 := List.append_eq_nil_iff.1 h
    match n, h1.1 with
    | 0, _ => exact ih h1.2
    | n + 1, h0 => simp [List.range'_succ] at h0

/-- A take from a free list with entries gives its head and leaves the rest. -/
theorem takeFree_some (f : List Run) (e : Nat) (rest : List Nat) (h : freeEntries f = e :: rest) :
    ∃ f', takeFree f = some (e, f') ∧ freeEntries f' = rest := by
  induction f with
  | nil => simp at h
  | cons r f ih =>
    obtain ⟨a, n⟩ := r
    rw [freeEntries_cons] at h
    match n, h with
    | 0, h => exact ih (by simpa using h)
    | 1, h =>
      simp [List.range'_succ] at h
      exact ⟨f, by simp [takeFree, h.1], h.2⟩
    | n + 2, h =>
      rw [List.range'_succ] at h
      simp only [List.cons_append, List.cons.injEq] at h
      exact ⟨⟨a + 1, n + 1⟩ :: f, by simp [takeFree, h.1], by rw [freeEntries_cons]; exact h.2⟩

/-- A take from the canonical list leaves a canonical list. -/
theorem takeFree_wf (f f' : List Run) (e : Nat) (h : freeWf f) (ht : takeFree f = some (e, f')) : freeWf f' := by
  match f, h, ht with
  | ⟨a, 0⟩ :: f, h, _ => exact absurd (h.1 ⟨a, 0⟩ (by simp)) (by simp)
  | ⟨a, 1⟩ :: f, h, ht =>
    simp only [takeFree, Option.some.injEq, Prod.mk.injEq] at ht
    exact ht.2 ▸ ⟨fun r hr => h.1 r (by simp [hr]), h.2.tail⟩
  | ⟨a, n + 2⟩ :: f, h, ht =>
    simp only [takeFree, Option.some.injEq, Prod.mk.injEq] at ht
    rw [← ht.2]
    refine ⟨fun r hr => ?_, ?_⟩
    · rcases List.mem_cons.1 hr with rfl | hr
      · simp
      · exact h.1 r (by simp [hr])
    · match f, h.2 with
      | [], _ => exact List.IsChain.singleton _
      | r :: f, hc =>
        rw [List.isChain_cons_cons] at hc ⊢
        exact ⟨by have := hc.1; simp only at *; omega, hc.2⟩

/-- A return puts the entry at the tail. -/
@[simp] theorem freeEntries_appendFree (f : List Run) (e : Nat) :
    freeEntries (appendFree f e) = freeEntries f ++ [e] := by
  match f with
  | [] => simp [appendFree, freeEntries]
  | [⟨a, n⟩] =>
    simp only [appendFree]
    split
    · rename_i h
      simp [freeEntries, ← h, List.range'_1_concat]
    · simp [freeEntries]
  | r :: r' :: f =>
    have := freeEntries_appendFree (r' :: f) e
    simp only [appendFree]
    obtain ⟨a, n⟩ := r
    rw [freeEntries_cons, this, freeEntries_cons a n, List.append_assoc]

/-- The returns of a roster put its entries at the tail in roster order. -/
theorem freeEntries_appendAll (es : List Nat) (f : List Run) :
    freeEntries (es.foldl appendFree f) = freeEntries f ++ es := by
  induction es generalizing f with
  | nil => simp
  | cons e es ih => simp [ih]

theorem appendFree_head (r : Run) (f : List Run) (e : Nat) :
    ∃ r' f', appendFree (r :: f) e = r' :: f' ∧ r'.first = r.first := by
  match f with
  | [] =>
    simp only [appendFree]
    split
    · exact ⟨_, _, rfl, rfl⟩
    · exact ⟨_, _, rfl, rfl⟩
  | r2 :: f => exact ⟨_, _, rfl, rfl⟩

/-- A return keeps the canonical form of the free list. -/
theorem appendFree_wf (f : List Run) (e : Nat) (h : freeWf f) : freeWf (appendFree f e) := by
  match f, h with
  | [], _ => exact ⟨by simp [appendFree], List.IsChain.singleton _⟩
  | [⟨a, n⟩], h =>
    simp only [appendFree]
    split
    · exact ⟨by simp, List.IsChain.singleton _⟩
    · rename_i hne
      refine ⟨fun r hr => ?_, by simpa using hne⟩
      have := h.1 ⟨a, n⟩ (by simp)
      simp only [List.mem_cons, List.not_mem_nil, or_false] at hr
      rcases hr with rfl | rfl
      · exact this
      · simp
  | r :: r2 :: f, h =>
    have ih := appendFree_wf (r2 :: f) e ⟨fun x hx => h.1 x (List.mem_cons_of_mem _ hx), h.2.tail⟩
    obtain ⟨r', f', heq, hfirst⟩ := appendFree_head r2 f e
    simp only [appendFree] at heq ⊢
    rw [heq] at ih ⊢
    refine ⟨fun x hx => ?_, ?_⟩
    · rcases List.mem_cons.1 hx with rfl | hx
      · exact h.1 _ (by simp)
      · exact ih.1 x hx
    · rw [List.isChain_cons_cons]
      refine ⟨?_, ih.2⟩
      rw [hfirst]
      exact (List.isChain_cons_cons.1 h.2).1

theorem appendAll_wf (es : List Nat) (f : List Run) (h : freeWf f) : freeWf (es.foldl appendFree f) := by
  induction es generalizing f with
  | nil => exact h
  | cons e es ih => exact ih _ (appendFree_wf f e h)

variable (s : State)

/-- Everything a take can do: it is refused by an empty list, or it gives the head of the list; either may raise POOL_LOW,
and nothing else changes (R70, R71). -/
theorem State.take_cases :
    (freeEntries s.free = [] ∧ s.take = (none, s.refuseTake)) ∨
    ∃ e rest f, freeEntries s.free = e :: rest ∧ freeEntries f = rest ∧
      s.take = (some e, { s with
        free := f, attn := if rest.length < s.poolLowMark then s.attn ||| AttnSource.poolLow.bit else s.attn }) := by
  match h : freeEntries s.free with
  | [] => exact .inl ⟨rfl, by simp [State.take, takeFree_none _ h]⟩
  | e :: rest =>
    obtain ⟨f, hf, hr⟩ := takeFree_some _ _ _ h
    refine .inr ⟨e, rest, f, rfl, hr, ?_⟩
    simp [State.take, hf, State.raiseIf, freeCount_eq_length, hr]

/-- What a freeing leaves: the slot FREE under its next generation, and the roster at the tail of the free list (R48). -/
theorem State.freeSlot_entries (k : Nat) (g : Gather) :
    (s.freeSlot k g).slot k = ⟨(s.slot k).generation + 1#8, none⟩ ∧
      (∀ j, j ≠ k → (s.freeSlot k g).slot j = s.slot j) ∧
      freeEntries (s.freeSlot k g).free = freeEntries s.free ++ g.roster.map Member.entry := by
  refine ⟨?_, fun j hj => ?_, ?_⟩
  · unfold State.freeSlot; rw [State.slot_setSlot]; simp
  · unfold State.freeSlot; rw [State.slot_setSlot, if_neg hj]; rfl
  · unfold State.freeSlot; rw [State.setSlot_free]; exact freeEntries_appendAll _ _

end Sys2Proof.Machine
end

