-- ==== Sys2Proof/Laws/Gathers.lean ====
section
/-! SUPPORT. The laws of the operations on one record: its place on the class queues (R123, R125, R126), returns (R122),
the exit from ACTIVE and the ending (R45, R46, R48), and what a lookup finds (R35). -/

namespace Sys2Proof.Machine

variable (s : State)

/-- The record that a slot holds, with its generation. -/
theorem State.slot_of_gather? {s : State} {k : Nat} {g : Gather} (h : s.gather? k = some g) :
    s.slot k = ⟨(s.slot k).generation, some g⟩ := by
  unfold State.gather? at h; rw [← h]

/-- A lookup finds a record that has the key (R35). -/
theorem State.lookupGather_some {s : State} {p k : Nat} {t : Tag} {g : Gather} (h : s.lookupGather p t = some (k, g)) :
    s.gather? k = some g ∧ g.port = p ∧ g.tag = t := by
  unfold State.lookupGather at h
  split at h
  · simp at h
  · rename_i j hj
    have := List.find?_some hj
    simp only [Option.map_eq_some_iff, Prod.mk.injEq] at h
    obtain ⟨g', h1, rfl, rfl⟩ := h
    simp only [State.hasKey, h1, Bool.and_eq_true, decide_eq_true_eq] at this
    exact ⟨h1, this⟩

/-- A deadline armed from a profile's time field: absent where the field holds 0 (R52, R61, R98, R100). -/
theorem armUnlessZero_toNat (now : Time) (x : BitVec 16) :
    armUnlessZero now x.toNat = if x = 0#16 then none else some (now + BitVec.ofNat 32 x.toNat) := by
  by_cases h : x = 0#16
  · subst h; rfl
  · have : x.toNat ≠ 0 := fun h2 => h (BitVec.eq_of_toNat_eq h2)
    simp [armUnlessZero, h, this, after]

/-! ## The place on the class queues -/

theorem State.port_dequeue (p c k q : Nat) : (s.dequeue p c k).port q =
    if q = p then (s.port p).setQueue c (((s.port p).queue c).filter (· ≠ k)) else s.port q := State.port_setPort ..

theorem State.port_enqueue (p c k q : Nat) : (s.enqueue p c k).port q =
    if q = p then (s.port p).setQueue c ((s.port p).queue c ++ [k]) else s.port q := State.port_setPort ..

/-- Everything a change of a record does: the record is written, and its place on the class queues of its port changes as
R123, R125 and R126 say; all else stands. -/
theorem State.putGather_cases (k : Nat) (old new : Gather) (hport : new.port = old.port) :
    (s.putGather k old new).slot k = ⟨(s.slot k).generation, some new⟩ ∧
    (∀ j, j ≠ k → (s.putGather k old new).slot j = s.slot j) ∧
    (∀ p, p ≠ old.port → (s.putGather k old new).port p = s.port p) ∧
    { (s.putGather k old new).port old.port with queues := (s.port old.port).queues } = s.port old.port ∧
    s.putGather k old new =
      { s with slots := (s.putGather k old new).slots, ports := (s.putGather k old new).ports } ∧
    ∀ c, ((s.putGather k old new).port old.port).queue c =
      if keepsPlace old new then (s.port old.port).queue c
      else (if old.queued = true ∧ c = old.cls then ((s.port old.port).queue c).filter (· ≠ k)
        else (s.port old.port).queue c) ++ if new.queued = true ∧ c = new.cls then [k] else [] := by
  cases ho : old.queued <;> cases hn : new.queued <;> by_cases hc : old.cls = new.cls <;>
    simp only [State.putGather, keepsPlace, appends, ho, hn, hc, hport, Bool.false_and, Bool.true_and, Bool.and_false,
      Bool.not_false, Bool.not_true, decide_true, decide_false, Bool.false_eq_true, ite_true, ite_false] <;>
    refine ⟨by rw [State.slot_setGather]; simp [State.dequeue, State.enqueue],
      fun j hj => by rw [State.slot_setGather, if_neg hj] <;> rfl,
      fun p hp => by simp [State.port_dequeue, State.port_enqueue, hp],
      by simp [State.port_dequeue, State.port_enqueue, Port.setQueue], rfl, fun c => ?_⟩ <;>
    (simp [State.port_dequeue, State.port_enqueue]; try (split <;> simp_all))

/-! ## Returns, the exit from ACTIVE and the ending -/

theorem State.port_giveBack (p n q : Nat) : (s.giveBack p n).port q =
    if q = p then { s.port p with outstanding := (s.port p).outstanding - n } else s.port q := State.port_setPort ..

theorem Gather.left_queued (g : Gather) : g.left.queued = false := by simp [Gather.queued, Gather.left]

/-- A record's exit from ACTIVE: it leaves its class queue, is written as it left, and its draws are returned (R45). -/
theorem State.leaveActive_eq (k : Nat) (g : Gather) : s.leaveActive k g =
    ((if g.queued then s.dequeue g.port g.cls k else s).setGather k g.left).giveBack g.port g.owed := by
  simp [State.leaveActive, State.putGather, keepsPlace, appends, Gather.left_queued]

/-- What an exit from ACTIVE leaves of the slots, and of the port's queues and O. -/
theorem State.leaveActive_cases (k : Nat) (g : Gather) :
    (s.leaveActive k g).slot k = ⟨(s.slot k).generation, some g.left⟩ ∧
    (∀ j, j ≠ k → (s.leaveActive k g).slot j = s.slot j) ∧
    (∀ c, ((s.leaveActive k g).port g.port).queue c =
      if g.queued = true ∧ c = g.cls then ((s.port g.port).queue c).filter (· ≠ k) else (s.port g.port).queue c) ∧
    { (s.leaveActive k g).port g.port with queues := (s.port g.port).queues } =
      { s.port g.port with outstanding := (s.port g.port).outstanding - g.owed } ∧
    (∀ p, p ≠ g.port → (s.leaveActive k g).port p = s.port p) ∧
    s.leaveActive k g = { s with slots := (s.leaveActive k g).slots, ports := (s.leaveActive k g).ports } := by
  rw [State.leaveActive_eq]
  cases hq : g.queued
  · refine ⟨by simp [State.giveBack], fun j hj => by simp [State.giveBack, hj], fun c => ?_, ?_, fun p hp => ?_, rfl⟩
    · simp [State.port_giveBack, Port.queue]
    · simp [State.port_giveBack]
    · simp [State.port_giveBack, hp]
  · refine ⟨by simp [State.giveBack, State.dequeue], fun j hj => by simp [State.giveBack, State.dequeue, hj],
      fun c => ?_, ?_, fun p hp => ?_, rfl⟩
    · have h : ∀ (pt : Port) (n : Nat), ({ pt with outstanding := n } : Port).queue c = pt.queue c := fun _ _ => rfl
      simp only [State.port_giveBack, ite_true, State.port_setGather, State.port_dequeue, h, Port.queue_setQueue,
        true_and]
      split
      · rename_i hc; rw [hc]
      · rfl
    · simp [State.port_giveBack, State.port_dequeue, Port.setQueue]
    · simp [State.port_giveBack, State.port_dequeue, hp]

theorem State.port_freeSlot (k : Nat) (g : Gather) (p : Nat) : (s.freeSlot k g).port p = s.port p := rfl

/-- Everything an ending does: the record ends as R45, R46 and R48 say, its outcome is offered, and the pass of a return is
called for where its members held draws. -/
theorem State.endGather_ended {s : State} {k : Nat} {g : Gather} (o : Ending) :
    ∃ u : State, s.Ended k g o u ∧ s.endGather k g o =
      (u.offer g.port o.event 1, decide (0 < (g.roster.map fun m => m.drawQueued + m.drawOut).sum)) := by
  refine ⟨_, ?_, rfl⟩
  obtain ⟨h1, h2, h3, h4, h5, h6⟩ := State.leaveActive_cases s k g
  have h0 := BitVec.toNat_inj (x := (s.profileOf g.port).lingerTime) (y := 0#16)
  by_cases hl : (s.profileOf g.port).lingerTime = 0#16
  · have hl' := h0.2 hl
    obtain ⟨e1, e2, e3⟩ := State.freeSlot_entries (s.leaveActive k g) k g
    rw [if_pos (show (s.profileOf g.port).lingerTime.toNat = 0 from hl')]
    refine ⟨fun h => absurd hl h, fun _ => ⟨by rw [e1, h1], by rw [e3]; simp⟩, fun j hj => by rw [e2 j hj, h2 j hj],
      fun c => by rw [State.port_freeSlot]; exact h3 c, by rw [State.port_freeSlot]; exact h4,
      fun p hp => by rw [State.port_freeSlot]; exact h5 p hp, ?_⟩
    rw [State.leaveActive_eq]; split <;> rfl
  · have hl' : ¬(s.profileOf g.port).lingerTime.toNat = 0 := fun h => hl (h0.1 h)
    rw [if_neg hl']
    refine ⟨fun _ => ⟨by simp, ?_⟩, fun h => absurd h hl, fun j hj => ?_,
      fun c => by rw [State.port_setGather]; exact h3 c, by rw [State.port_setGather]; exact h4,
      fun p hp => by rw [State.port_setGather]; exact h5 p hp, ?_⟩
    · rw [State.slot_setGather, if_pos rfl, h1]; simp only [State.leaveActive_timebase]; rfl
    · rw [State.slot_setGather, if_neg hj, h2 j hj]
    · rw [State.leaveActive_eq]; split <;> rfl

end Sys2Proof.Machine
end

