-- ==== Sys2Proof/Laws/Members.lean ====
section
/-! SUPPORT. The laws of a gather's members: finding and changing one (R72), what a re-evaluation does (R87), what an added
member is (R51, R72, R75), and what an arrival's handling leaves of its record (R77). -/

namespace Sys2Proof.Machine

/-! ## Finding and changing a member -/

/-- A member is found by its entry number in a roster that holds no entry twice. -/
theorem find_entry (before behind : List Member) (m : Member)
    (h : ((before ++ m :: behind).map Member.entry).Nodup) :
    (before ++ m :: behind).find? (fun x => x.entry == m.entry) = some m := by
  rw [List.map_append, List.nodup_append] at h
  have hb : before.find? (fun x => x.entry == m.entry) = none := List.find?_eq_none.2 fun x hx => by
    simpa using h.2.2 x.entry (List.mem_map_of_mem hx) m.entry (by simp)
  rw [List.find?_append, hb]
  simp

/-- A replacement reaches no member of another entry number. -/
theorem replace_none (l : List Member) (e : Nat) (m : Member) (h : ∀ x ∈ l, x.entry ≠ e) :
    (l.map fun x => if x.entry = e then m else x) = l := by
  conv => rhs; rw [← List.map_id l]
  exact List.map_congr_left fun x hx => by simp [h x hx]

/-- A replaced member stands in the place of the old one, and the others in theirs. -/
theorem replace_entry (before behind : List Member) (m m' : Member) (he : m'.entry = m.entry)
    (h : ((before ++ m :: behind).map Member.entry).Nodup) :
    ((before ++ m :: behind).map fun x => if x.entry = m'.entry then m' else x) = before ++ m' :: behind := by
  rw [List.map_append, List.nodup_append] at h
  rw [List.map_append, List.map_cons, he, if_pos rfl,
    replace_none before _ _ fun x hx => h.2.2 x.entry (List.mem_map_of_mem hx) m.entry (by simp),
    replace_none behind m.entry _ fun x hx hxe => (List.nodup_cons.1 h.2.1).1 (hxe ▸ List.mem_map_of_mem hx)]

/-- The entries of a roster stand when a member is replaced. -/
theorem Gather.setMember_entries (g : Gather) (m : Member) :
    (g.setMember m).roster.map Member.entry = g.roster.map Member.entry := by
  simp only [Gather.setMember, List.map_map]
  exact List.map_congr_left fun x _ => by simp only [Function.comp]; split <;> simp_all

@[simp] theorem Gather.setMember_port (g : Gather) (m : Member) : (g.setMember m).port = g.port := rfl
@[simp] theorem Gather.setMember_stage (g : Gather) (m : Member) : (g.setMember m).stage = g.stage := rfl
@[simp] theorem Gather.setMember_ring (g : Gather) (m : Member) : (g.setMember m).ring = g.ring := rfl
@[simp] theorem Gather.setMember_cls (g : Gather) (m : Member) : (g.setMember m).cls = g.cls := rfl
@[simp] theorem Gather.setMember_suspended (g : Gather) (m : Member) : (g.setMember m).suspended = g.suspended := rfl

/-! ## Re-evaluation -/

/-- A re-evaluation leaves a member that is FINISHED, LAPSED or on the ring (R87). -/
theorem Gather.reevaluate_none (pf : Profile) (e : Nat) (g : Gather) (m : Member) (h : g.member? e = some m)
    (hn : m.phase = .finished ∨ m.phase = .lapsed ∨ e ∈ g.ring) : g.reevaluate pf e = g := by
  simp only [Gather.reevaluate, h]
  rw [if_pos]
  tauto

/-- A re-evaluation of another member of an ACTIVE record (R87). -/
theorem Gather.reevaluate_off (pf : Profile) (e : Nat) (g : Gather) (m : Member) (h : g.member? e = some m)
    (hs : g.stage = .active) (h1 : m.phase ≠ .finished) (h2 : m.phase ≠ .lapsed) (h3 : e ∉ g.ring) :
    g.reevaluate pf e =
      if m.wantsMore pf then { g.setMember { m with phase := .waiting } with ring := g.ring ++ [e] }
      else g.setMember { m with phase := if 0 < m.openLeft then .opening else .drawn } := by
  simp [Gather.reevaluate, h, hs, h1, h2, h3]

/-- A re-evaluation changes the roster and the wait ring of its record alone. -/
theorem Gather.reevaluate_frame (pf : Profile) (e : Nat) (g : Gather) :
    g.reevaluate pf e = { g with roster := (g.reevaluate pf e).roster, ring := (g.reevaluate pf e).ring } := by
  unfold Gather.reevaluate
  split
  · rfl
  · split
    · rfl
    · split <;> rfl

@[simp] theorem Gather.reevaluate_port (pf : Profile) (e : Nat) (g : Gather) : (g.reevaluate pf e).port = g.port := by
  rw [Gather.reevaluate_frame]
@[simp] theorem Gather.reevaluate_stage (pf : Profile) (e : Nat) (g : Gather) : (g.reevaluate pf e).stage = g.stage := by
  rw [Gather.reevaluate_frame]
@[simp] theorem Gather.reevaluate_cls (pf : Profile) (e : Nat) (g : Gather) : (g.reevaluate pf e).cls = g.cls := by
  rw [Gather.reevaluate_frame]

/-- The handling of an arrival changes the roster and the wait ring of its record alone (R77). -/
theorem Gather.handle_frame (pf : Profile) (now : Time) (mode : Mode) (c : Nat) (last : Bool) (m : Member) (g : Gather) :
    (g.handle pf now mode c last m).gather = { g with
      roster := (g.handle pf now mode c last m).gather.roster
      ring := (g.handle pf now mode c last m).gather.ring } := by
  have hr : ∀ (x : Gather) (e : Nat), { x with roster := g.roster, ring := g.ring } = g →
      x.reevaluate pf e = { g with roster := (x.reevaluate pf e).roster, ring := (x.reevaluate pf e).ring } := by
    intro x e hx
    rw [← hx]
    exact Gather.reevaluate_frame pf e x
  unfold Gather.handle
  split <;> simp only [Gather.chargeOrTrim, Gather.handleFinished, Gather.handleLapsed] <;> repeat' split
  all_goals first | rfl | exact hr _ _ rfl

/-! ## An added member -/

/-- An added member stands at the tail of the roster, OPENING with open-left A, or, where A is 0, WAITING at the tail of the
ring (R51, R72, R75). -/
theorem Gather.addMember_eq (pf : Profile) (e : Nat) (t : Token) (announced : Bool) (expected : Option Nat) (g : Gather)
    (hs : g.stage = .active) (hr : ∀ x ∈ g.roster, x.entry ≠ e) (he : e ∉ g.ring) :
    g.addMember pf e t announced expected = { g with
      roster := g.roster ++ [{ Member.taken e t announced expected g.allowance with
        phase := if 0 < g.allowance then .opening else .waiting }]
      ring := if g.allowance = 0 then g.ring ++ [e] else g.ring } := by
  unfold Gather.addMember
  by_cases h0 : g.allowance = 0
  · have hm : Gather.member? { g with roster := g.roster ++ [Member.taken e t announced expected 0] } e =
        some (Member.taken e t announced expected 0) := by
      have : g.roster.find? (fun x => x.entry == e) = none := List.find?_eq_none.2 fun x hx => by simpa using hr x hx
      simp [Gather.member?, List.find?_append, this, Member.taken]
    have hw : (Member.taken e t announced expected 0).wantsMore pf = true := by
      cases expected <;> simp [Member.wantsMore, Member.taken]
    simp only [h0, ite_true]
    have := Gather.reevaluate_off pf e _ _ hm hs (by simp [Member.taken]) (by simp [Member.taken]) he
    simp only [h0] at this
    rw [this, hw]
    simp only [ite_true, Gather.setMember, List.map_append]
    rw [show (Member.taken e t announced expected 0).entry = e from rfl, replace_none g.roster e _ hr]
    simp [Member.taken]
  · simp only [h0, ite_false]
    simp [Member.taken, Nat.pos_of_ne_zero h0]

end Sys2Proof.Machine
end

