-- ==== Sys2Proof/Laws/Queries.lean ====
section
/-! SUPPORT. The laws of taking a query: which query is taken, the checks 1 to 3, and what a fault answers (R17, R19). -/

namespace Sys2Proof.Machine

theorem State.takeable_of_mayTake {s : State} {q : List Word} (h : s.MayTake q) : s.takeable = some q := by
  obtain ⟨h1, h2, h3⟩ := h
  simp [State.takeable, State.isUp, h1, Config.fifoDepth, h2, h3]

theorem State.linkFault_of_accepts {s : State} {q : List Word} (h : s.Accepts q) : s.linkFault q = none := by
  obtain ⟨h1, h2, h3⟩ := h
  simp [State.linkFault, h1, h3, Config.ports, Nat.not_le.2 h2]

/-- A query that may be taken and passes the checks 1 to 3 is carried out by its owner, with the query taken. -/
theorem State.takeQuery_accepts {s : State} {q : List Word} (f : BitVec 4 → Bool) (owner : List Word → State → State)
    (h : s.MayTake q) (ha : s.Accepts q) (hf : f (kindOf q) = true) : s.takeQuery f owner = owner q s.popQuery := by
  simp [State.takeQuery, State.takeable_of_mayTake h, State.linkFault_of_accepts ha, hf]

/-- A query that may be taken and fails one of the checks 1 to 3 is answered with the fault. -/
theorem State.takeQuery_fault {s : State} {q : List Word} (f : BitVec 4 → Bool) (owner : List Word → State → State)
    {status : Status} {parameter : BitVec 16} (h : s.MayTake q) (ha : s.linkFault q = some (status, parameter))
    (hf : f (kindOf q) = true) : s.takeQuery f owner = s.popQuery.fault q status parameter := by
  simp [State.takeQuery, State.takeable_of_mayTake h, ha, hf]

/-- Where no query may be taken, no command of a query does anything. -/
theorem State.takeQuery_none {s : State} (f : BitVec 4 → Bool) (owner : List Word → State → State)
    (h : s.takeable = none) : s.takeQuery f owner = s := by simp [State.takeQuery, h]

@[simp] theorem State.popQuery_gather? (s : State) (k : Nat) : s.popQuery.gather? k = s.gather? k := rfl
@[simp] theorem State.popQuery_slot (s : State) (k : Nat) : s.popQuery.slot k = s.slot k := rfl
@[simp] theorem State.popQuery_port (s : State) (p : Nat) : s.popQuery.port p = s.port p := rfl
@[simp] theorem State.popQuery_profileOf (s : State) (p : Nat) : s.popQuery.profileOf p = s.profileOf p := rfl
@[simp] theorem State.popQuery_lookupGather (s : State) (p : Nat) (t : Tag) :
    s.popQuery.lookupGather p t = s.lookupGather p t := rfl

/-- The taking of the query and an offer are independent. -/
theorem State.offer_popQuery (s : State) (p : Nat) (ev : MeterEvent) (inc : Nat) :
    s.popQuery.offer p ev inc = (s.offer p ev inc).popQuery := by
  simp only [State.offer, State.offerTo, State.popQuery]; rfl

theorem State.offerTo_popQuery (s : State) (sel : BitVec 6) (ev : MeterEvent) (inc : Nat) :
    s.popQuery.offerTo sel ev inc = (s.offerTo sel ev inc).popQuery := by
  simp only [State.offerTo, State.popQuery]; rfl

end Sys2Proof.Machine
end

