-- ==== Sys2Proof/Laws/Timers.lean ====
section
/-! SUPPORT. The deadlines whose expiries hold the timebase back (R10, R12): which they are, and when one does. -/

namespace Sys2Proof.Machine

/-- A slot that holds a record is listed. -/
theorem State.mem_keys_of_gather? {s : State} {k : Nat} {g : Gather} (h : s.gather? k = some g) : k ∈ s.slots.keys := by
  refine (Table.mem_keys _ _).2 ⟨_, Table.mem_of_get_ne Slot.reset s.slots k fun hr => ?_⟩
  have : (s.slot k).body = none := by rw [State.slot, hr]; rfl
  exact absurd (h.symm.trans this) (by simp)

/-- A deadline is pressing exactly when it was reached at an earlier point (R11, R12). -/
theorem pressing_iff (now d : Time) : pressing now d = true ↔ (now - d).toNat < 2 ^ 31 ∧ now ≠ d := by
  simp only [pressing, reached, Bool.and_eq_true, decide_eq_true_eq, ne_comm]

/-- The deadlines of a record are those whose expiries its stage awaits (R42, R45). -/
theorem Gather.mem_deadlines (g : Gather) (d : Time) : d ∈ g.deadlines ↔
    (g.stage = .active ∧ (g.idle = some d ∨ g.lifetime = some d ∨ ∃ m ∈ g.roster, m.drawDeadline = some d)) ∨
      (g.stage ≠ .active ∧ g.lingerAt = some d) := by
  unfold Gather.deadlines
  cases hs : g.stage <;> simp

/-- The deadlines of a port (R13, R97). -/
theorem Port.mem_deadlines (pt : Port) (d : Time) :
    d ∈ pt.deadlines ↔ pt.dwell = .armed d ∨ pt.staleAt = some d := by
  unfold Port.deadlines
  cases pt.dwell <;> simp [eq_comm]

/-- The deadlines that the timebase waits for are those whose expiries are still to be taken (R12). -/
theorem State.mem_deadlines (s : State) (d : Time) : d ∈ s.deadlines ↔ s.Awaits d := by
  simp only [State.deadlines, List.mem_append, List.mem_flatMap, List.mem_range, Config.ports]
  constructor
  · rintro (⟨p, hp, hd⟩ | ⟨k, -, hd⟩)
    · rcases (Port.mem_deadlines _ _).1 hd with hd | hd
      · exact .dwell p d hp hd
      · exact .stale p d hp hd
    · cases hg : s.gather? k with
      | none => simp [hg] at hd
      | some g =>
        simp only [hg] at hd
        rcases (g.mem_deadlines d).1 hd with ⟨hs, hd | hd | ⟨m, hm, hd⟩⟩ | ⟨hs, hd⟩
        · exact .idle k g d hg hs hd
        · exact .lifetime k g d hg hs hd
        · exact .draw k g m d hg hs hm hd
        · exact .linger k g d hg hs hd
  · have record {k : Nat} {g : Gather} (hg : s.gather? k = some g) (h : d ∈ g.deadlines) :
        ∃ k ∈ s.slots.keys, d ∈ (match s.gather? k with | none => [] | some g => g.deadlines) :=
      ⟨k, State.mem_keys_of_gather? hg, by simpa [hg] using h⟩
    intro h
    cases h with
    | dwell p _ hp h => exact .inl ⟨p, hp, (Port.mem_deadlines _ _).2 (.inl h)⟩
    | stale p _ hp h => exact .inl ⟨p, hp, (Port.mem_deadlines _ _).2 (.inr h)⟩
    | idle k g _ hg hs h => exact .inr (record hg ((g.mem_deadlines d).2 (.inl ⟨hs, .inl h⟩)))
    | lifetime k g _ hg hs h => exact .inr (record hg ((g.mem_deadlines d).2 (.inl ⟨hs, .inr (.inl h)⟩)))
    | draw k g m _ hg hs hm h => exact .inr (record hg ((g.mem_deadlines d).2 (.inl ⟨hs, .inr (.inr ⟨m, hm, h⟩)⟩)))
    | linger k g _ hg hs h => exact .inr (record hg ((g.mem_deadlines d).2 (.inr ⟨hs, h⟩)))

end Sys2Proof.Machine
end

