-- ==== Sys2Proof/Tests/Slice0.lean ====
section
/-! SUPPORT. Tests of the model: the well-formedness smoke tests, words written out from the layouts of R29, one or two
small steps per command with results taken from the manual's worked sequences, and, for each statement with hypotheses,
a concrete state and operands that meet them. -/

namespace Sys2Proof.Tests

open Sys2Proof Sys2Proof.Machine

/-! ## Well-formedness: an ill-formed term for each check -/

theorem test_query_without_words_is_refused : (Instr.queryArrival []).wellFormed = false := by decide
theorem test_query_with_a_signal_code_is_refused : (Instr.queryArrival [0x80000000#32]).wellFormed = false := by decide
theorem test_query_is_accepted : (Instr.queryArrival [0x00000000#32]).wellFormed = true := by decide
theorem test_undefined_signal_without_words_is_refused : (Instr.undefinedSignal []).wellFormed = false := by decide
theorem test_undefined_signal_with_a_query_code_is_refused :
    (Instr.undefinedSignal [0x70000000#32]).wellFormed = false := by decide
theorem test_undefined_signal_that_is_a_report_is_refused :
    (Instr.undefinedSignal [0x80005001#32]).wellFormed = false := by decide
theorem test_undefined_signal_that_adds_credit_is_refused :
    (Instr.undefinedSignal [0x90100000#32]).wellFormed = false := by decide
theorem test_credit_signal_of_zero_is_undefined : (Instr.undefinedSignal [0x90000000#32]).wellFormed = true := by decide
theorem test_emit_credit_of_zero_is_refused : (Instr.emitCredit 0#8).wellFormed = false := by decide
theorem test_dwell_expiry_port_is_checked :
    (Instr.dwellExpiry 48).wellFormed = false ∧ (Instr.dwellExpiry 47).wellFormed = true := by decide
theorem test_stale_expiry_port_is_checked :
    (Instr.staleExpiry 48).wellFormed = false ∧ (Instr.staleExpiry 47).wellFormed = true := by decide
theorem test_draw_deadline_operands_are_checked :
    (Instr.drawDeadlineExpiry 8192 0).wellFormed = false ∧ (Instr.drawDeadlineExpiry 0 256).wellFormed = false ∧
      (Instr.drawDeadlineExpiry 8191 255).wellFormed = true := by decide
theorem test_idle_expiry_slot_is_checked :
    (Instr.idleExpiry 8192).wellFormed = false ∧ (Instr.idleExpiry 8191).wellFormed = true := by decide
theorem test_lifetime_expiry_slot_is_checked :
    (Instr.lifetimeExpiry 8192).wellFormed = false ∧ (Instr.lifetimeExpiry 8191).wellFormed = true := by decide
theorem test_linger_expiry_slot_is_checked :
    (Instr.lingerExpiry 8192).wellFormed = false ∧ (Instr.lingerExpiry 8191).wellFormed = true := by decide
theorem test_bad_command_code_is_checked :
    (Instr.badCommand 1#8 0#8 0#16).wellFormed = false ∧ (Instr.badCommand 6#8 0#8 0#16).wellFormed = false ∧
      (Instr.badCommand 0#8 0#8 0#16).wellFormed = true ∧ (Instr.badCommand 7#8 0#8 0#16).wellFormed = true := by decide
theorem test_register_write_with_a_row_of_its_own_is_refused :
    ∀ i : BitVec 4, (Instr.registerWrite i 0xF#4 0#32).wellFormed =
      decide (i ≠ 1#4 ∧ i ≠ 5#4 ∧ i ≠ 6#4 ∧ i ≠ 7#4) := by decide

/-! ## Words written out from the layouts of R29 -/

/-- REPORT of depth 1,500 at port 20. -/
theorem test_receive_report : receive [0x805DC014#32] = some (.report 20#8 1500#16) := by decide
/-- EMIT_CREDIT of 2. -/
theorem test_receive_emit_credit : receive [0x90200000#32] = some (.emitCredit 2#8) := by decide
theorem test_receive_link_reset : receive [0xA0000000#32] = some .linkReset := by decide
/-- A LINK_RESET of two words has not its kind's length. -/
theorem test_receive_undefined_signal :
    receive [0xA0000000#32, 0#32] = some (.undefinedSignal [0xA0000000#32, 0#32]) := by decide
/-- ARRIVE of 5,000 bytes, last, at port 9, tag 0x0100, token 0x0B0002: 20 cells. -/
theorem test_arrive_fields :
    let q : List Word := [0x54E22009#32, 0x01000000#32, 0x000B0002#32]
    portOf q = 9 ∧ bytesOf q = 5000 ∧ lastOf q = true ∧ tagOf q = 0x0100#16 ∧ tokenOf q = 0x0B0002#24 ∧
      cellsOf (bytesOf q) = 20 ∧ lengthLegal q = true := by decide
/-- OPEN of class 5 with two listed entries at port 9, tag 0x0100, announced count 3. -/
theorem test_open_fields :
    let q : List Word := [0x1A200009#32, 0x01000030#32, 0x000B0001#32, 40#32, 0x000B0002#32, 0#32]
    classOf q = 5 ∧ entryCountOf q = 2 ∧ announcedOf q = 3 ∧ lengthLegal q = true ∧
      listedOf q = [(0x0B0001#24, 40), (0x0B0002#24, 0)] := by decide
/-- An entry count of 25 has no legal length, even with 52 words (R15). -/
theorem test_entry_count_25_is_format : lengthLegal (0x11900000#32 :: List.replicate 51 0#32) = false := by decide
/-- The DRAW emission of 8 cells of token 0x0B0001 of tag 0x0100 at port 9. -/
theorem test_emission_words :
    Emission.words ⟨9, 0x0100#16, 0x0B0001#24, 8, 6, 3#8, 0⟩ = [0xD0800009#32, 0x01000000#32, 0x000B0001#32] := by decide
/-- The ANSWER to the worked OPEN: OK, parameter 6, A = 32, accepted 2, class 5. -/
theorem test_answer_words :
    Answer.words ⟨1#4, .ok, none, 6#16, 32#8, 2#5, 5#3⟩ = [0xC1000006#32, 0x20150000#32] := by decide

/-! ## Small steps, by command -/

/-- The state a step answers. -/
def next (o : Host.Outcome State Fault Refusal) : State :=
  match o with
  | .next t => t
  | _ => State.reset

/-- The state after one command. -/
def run (c : Instr) (s : State) : State := next (exec c s)

/-- A part with its link UP and one port as given. -/
def part (p : Nat) (pt : Port) : State := { State.reset with link := .up, ports := [(p, pt)] }

/-- An enabled port in FILL (chapter 04's worked life: port 9, F = 1,024, O = 0). -/
def fillPort : Port := { Port.reset with enabled := true, mode := .fill, dwell := .armed 3000000#32 }

/-- The worked life of one gather before its OPEN, with slot 0 FREE under generation 3. -/
def collector : State := { part 9 fillPort with timebase := 2000000#32, slots := [(0, ⟨3#8, none⟩)], credit := 5 }

/-- After the worked OPEN. -/
def opened : State := run .openQuery { collector with
  queryFifo := [[0x1A200009#32, 0x01000030#32, 0x000B0001#32, 40#32, 0x000B0002#32, 0#32]] }

theorem test_open_answers_and_arms_deadlines :
    opened.answerFifo = [⟨1#4, .ok, none, 0#16, 32#8, 2#5, 5#3⟩] ∧
      (opened.gather? 0).map (fun g => (g.idle, g.lifetime)) = some (some 2002000#32, some 3000000#32) := by decide

/-- The table of worked opening allowances of chapter 04. -/
theorem test_opening_allowances :
    openingAllowance Profile.reset 1024 .fill 40 0 = 19 ∧ openingAllowance Profile.reset 1024 .calm 8 8 = 64 ∧
      openingAllowance Profile.reset 1024 .fill 0 5 = 32 ∧ openingAllowance Profile.reset 896 .crowd 300 24 = 1 ∧
      openingAllowance Profile.reset 64 .surge 10 0 = 1 ∧ openingAllowance Profile.reset 64 .surge 20 0 = 0 ∧
      openingAllowance Profile.reset 16383 .calm 0 0 = 64 := by decide

/-- After the worked arrival 1, of exactly the allowance. -/
def drawn : State := run .arriveQuery { opened with
  timebase := 2000010#32, queryFifo := [[0x58000009#32, 0x01000000#32, 0x000B0001#32]] }

theorem test_arrival_issues_a_draw :
    (drawn.port 9).outstanding = 8 ∧ drawn.emq = [⟨9, 0x0100#16, 0x0B0001#24, 8, 0, 3#8, 0⟩] := by decide

/-- The departure at 2,000,030 arms the draw deadline at 2,000,530 and takes one credit. -/
theorem test_departure_arms_the_draw_deadline :
    let t := run .drawEmission { drawn with timebase := 2000030#32, answerFifo := [] }
    t.credit = 4 ∧ (t.gather? 0).map (fun g => g.roster.map fun m => (m.drawQueued, m.drawOut, m.drawDeadline)) =
      some [(0, 8, some 2000530#32), (0, 0, none)] := by decide

/-- The worked gather after its departure, with its other members finished. -/
def nearlyDone : Gather where
  port := 9
  tag := 0x0100#16
  cls := 5
  suspended := false
  allowance := 32
  announced := 3
  roster :=
    [⟨0, 0x0B0001#24, true, some 40, .drawn, 0, 0, 8, 32, 0, 0, some 2000530#32⟩,
     ⟨1, 0x0B0002#24, true, none, .finished, 0, 0, 0, 20, 0, 0, none⟩,
     ⟨2, 0x0C0009#24, false, none, .finished, 0, 0, 0, 8, 0, 0, none⟩]
  ring := []
  stage := .active
  idle := some 2002100#32
  lifetime := some 3000000#32
  lingerAt := none

/-- The part that holds it, under generation 3, with O = 8. -/
def nearlyDonePart : State := { part 9 { fillPort with outstanding := 8 } with
  slots := [(0, ⟨3#8, some nearlyDone⟩)], free := [⟨3, 65533⟩] }

/-- The worked arrival 4 completes the gather: O falls to 0 and it lingers until 2,000,400. -/
theorem test_arrival_completes_the_gather :
    let t := run .arriveQuery { nearlyDonePart with
      timebase := 2000200#32, queryFifo := [[0x52002009#32, 0x01000000#32, 0x000B0001#32]] }
    (t.port 9).outstanding = 0 ∧
      (t.gather? 0).map (fun g => (g.stage, g.lingerAt, g.idle)) =
        some (.linger .complete, some 2000400#32, none) := by decide

/-- The worked gather in LINGER. -/
def lingering : Gather := { nearlyDone.left with stage := .linger .complete, lingerAt := some 2000400#32 }

/-- The part that holds it. -/
def lingeringPart : State := { part 9 fillPort with
  timebase := 2000400#32, slots := [(0, ⟨3#8, some lingering⟩)], free := [⟨3, 65533⟩] }

theorem test_linger_expiry_frees_the_slot :
    let t := run (.lingerExpiry 0) lingeringPart
    t.slot 0 = ⟨4#8, none⟩ ∧ t.free = [⟨3, 65533⟩, ⟨0, 3⟩] := by decide

theorem test_extend_adds_at_the_tail :
    let t := run .extendQuery { nearlyDonePart with
      queryFifo := [[0x20100009#32, 0x01000050#32, 0x000C000A#32, 7#32]] }
    t.answerFifo = [⟨2#4, .ok, none, 0#16, 32#8, 1#5, 5#3⟩] ∧
      (t.gather? 0).map (fun g => (g.announced, g.roster.map Member.entry)) = some (5, [0, 1, 2, 3]) := by decide

/-- A faulted EXTEND is answered NO_GATHER (R19). -/
theorem test_extend_of_no_gather :
    (run .extendQuery { nearlyDonePart with queryFifo := [[0x20000009#32, 0x01010000#32]] }).answerFifo.map
      (fun a => (a.status, a.parameter)) = [(.noGather, 0#16)] := by decide

/-- Class field 0 suspends and 3 sets the class (R56, R57). -/
theorem test_reclass_suspends_and_sets_the_class :
    ((run .reclassQuery { nearlyDonePart with queryFifo := [[0x30000009#32, 0x01000000#32]] }).gather? 0).map
        (fun g => (g.suspended, g.cls)) = some (true, 5) ∧
      ((run .reclassQuery { nearlyDonePart with queryFifo := [[0x36000009#32, 0x01000000#32]] }).gather? 0).map
        (fun g => (g.suspended, g.cls)) = some (false, 3) := by decide

/-- CLOSE returns the draws and lingers (R45, R46, R58). -/
theorem test_close_returns_draws :
    let t := run .closeQuery { nearlyDonePart with queryFifo := [[0x40000009#32, 0x01000000#32]] }
    (t.port 9).outstanding = 0 ∧ (t.gather? 0).map Gather.stage = some (.linger .closed) := by decide

/-- RECLASS of a record in LINGER is answered GATHER_CLOSED with the outcome code (R19, R29). -/
theorem test_reclass_of_a_lingering_gather :
    (run .reclassQuery { lingeringPart with queryFifo := [[0x30000009#32, 0x01000000#32]] }).answerFifo.map
      (fun a => (a.status, a.parameter)) = [(.gatherClosed, 1#16)] := by decide

/-- Port 12 in CROWD, with the exempt windows of chapter 03's worked sequence. -/
def classifying : State := { part 12 { Port.reset with enabled := true, mode := .crowd, dwell := .armed 500#32 } with
  windows := [(0, ⟨true, false, 3#8, 0x7F0000#24, 0xFF0000#24⟩), (2, ⟨true, true, 0#8, 0x000400#24, 0xFFFFFC#24⟩),
    (5, ⟨true, true, 0#8, 0x000401#24, 0xFFFFFF#24⟩)]
  slots := [(40, ⟨0#8, some { lingering with port := 12, tag := 0x0201#16 }⟩)] }

/-- Arrivals 2 and 3 of the worked sequence: window 2 exempts token 0x000401, and token 0x0A0007 is a straggler, trimmed
with parameter 40. -/
theorem test_arrivals_are_classified :
    (run .arriveQuery { classifying with queryFifo := [[0x5177000C#32, 0x02010000#32, 0x00000401#32]] }).answerFifo =
        [⟨5#4, .ok, some (.pass, .exempt), 2#16, 0#8, 0#5, 0#3⟩] ∧
      (run .arriveQuery { classifying with queryFifo := [[0x52EE000C#32, 0x02010000#32, 0x000A0007#32]] }).answerFifo =
        [⟨5#4, .ok, some (.trim, .straggler), 40#16, 0#8, 0#5, 0#3⟩] := by decide

/-- Arrival 4: a stray of 3 cells in CROWD is marked. -/
theorem test_stray_is_marked :
    (run .arriveQuery { classifying with queryFifo := [[0x5096000C#32, 0x03050000#32, 0x000A0007#32]] }).answerFifo =
      [⟨5#4, .ok, some (.mark, .stray), 0#16, 0#8, 0#5, 0#3⟩] := by decide

/-- A query of kind 0x7 is answered FORMAT with its kind as the parameter (R19). -/
theorem test_undefined_query_is_answered_format :
    (run .undefinedQuery { collector with queryFifo := [[0x70000009#32]] }).answerFifo =
      [⟨7#4, .format, none, 7#16, 0#8, 0#5, 0#3⟩] := by decide

theorem test_part_reset_frees_everything :
    let t := run .partReset nearlyDonePart
    t.link = .resetting ∧ t.slots = [] ∧ t.ports = [] ∧ t.free = [⟨0, 65536⟩] := by decide

/-- Loss of framing empties both FIFOs and leaves the gather ACTIVE (chapter 02's worked sequence). -/
theorem test_loss_of_framing :
    let t := run .lossOfFraming { nearlyDonePart with
      queryFifo := [[0x40000009#32, 0x01000000#32]], answerFifo := [⟨4#4, .ok, none, 0#16, 0#8, 0#5, 0#3⟩], credit := 3 }
    t.link = .resetting ∧ t.queryFifo = [] ∧ t.answerFifo = [] ∧ t.credit = 0 ∧ t.attn = 0x02#7 ∧
      (t.gather? 0).map Gather.stage = some .active := by decide

theorem test_framing_acquired : (run .framingAcquired State.reset).link = .up := by decide

/-- The 65th query is discarded and LINK_OVERRUN raised (R16). -/
theorem test_query_arrival_at_a_full_fifo :
    let full := { part 9 fillPort with queryFifo := List.replicate 64 [0#32] }
    (run (.queryArrival [0x40000009#32, 0#32]) full).attn = 0x01#7 ∧
      (run (.queryArrival [0x40000009#32, 0#32]) (part 9 fillPort)).queryFifo = [[0x40000009#32, 0#32]] := by decide

theorem test_undefined_signal_has_no_effect :
    run (.undefinedSignal [0x90000000#32]) collector = collector := by decide

theorem test_answer_is_sent :
    let t := run .answer opened
    t.answerFifo = [] ∧ t.lklTx = [0xC1000000#32, 0x20150000#32] ∧ t.nextTx = .emission := by decide

/-- Chapter 07's worked sequence: the pointer at 10 with ports 3, 10 and 40 blocked hands to 40, then to 3, then to 10. -/
theorem test_places_are_handed_in_round_robin :
    let blocked : Port := { Port.reset with blocked := true }
    let s : State := { State.reset with ports := [(3, blocked), (10, blocked), (40, blocked)] }
    State.nextHanded { s with pointer := 10 } = some 40 ∧ State.nextHanded { s with pointer := 40 } = some 3 ∧
      State.nextHanded { s with pointer := 3 } = some 10 := by decide

/-- A stale head entry is discarded with the credit unchanged, and the freed place handed to port 40. -/
theorem test_stale_discard :
    let s : State := { State.reset with
      link := .up, credit := 2, pointer := 10, emq := [⟨3, 0#16, 0#24, 32, 7, 0#8, 0⟩]
      ports := [(40, { Port.reset with enabled := true, blocked := true })] }
    let t := run .staleDiscard s
    t.emq = [] ∧ t.credit = 2 ∧ t.pointer = 40 ∧ (t.port 40).blocked = false := by decide

theorem test_emit_credit_holds_at_1023 :
    (run (.emitCredit 255#8) { collector with credit := 1000 }).credit = 1023 := by decide

theorem test_link_reset_stays_up :
    let t := run .linkReset { collector with queryFifo := [[0x40000009#32, 0#32]] }
    t.link = .up ∧ t.queryFifo = [] ∧ t.credit = 0 := by decide

/-- The report at 500,160 of chapter 06's worked run: FILL with F = 1,056 meets depth 1,500. -/
theorem test_report_climbs_to_crowd :
    let t := run (.report 20#8 1500#16) { part 20 { fillPort with flight := 1056, dwell := .armed 500320#32 } with
      timebase := 500160#32 }
    let pt := t.port 20
    pt.mode = .crowd ∧ pt.flight = 928 ∧ pt.effFloor = 2 ∧ pt.dwell = .armed 500660#32 ∧ pt.staleAt = some 500260#32 := by
  decide

/-- The port of that run in SURGE, before its dwell expiry at 501,240. -/
def surging : State := { part 20 { Port.reset with
    enabled := true, mode := .surge, dwell := .armed 501240#32, flight := 64, effFloor := 4, atFloor := true } with
  timebase := 501240#32 }

/-- The report at 500,200 enters SURGE and raises PORT_SURGE. -/
theorem test_report_enters_surge :
    let t := run (.report 20#8 3300#16) { part 20 { fillPort with mode := .crowd, flight := 928, effFloor := 2 } with
      timebase := 500200#32 }
    let pt := t.port 20
    pt.mode = .surge ∧ pt.flight = 64 ∧ pt.atFloor = true ∧ pt.effFloor = 4 ∧ pt.dwell = .armed 501200#32 ∧
      t.attn = 0x08#7 := by decide +kernel

theorem test_dwell_expiry_falls_to_crowd :
    let pt := (run (.dwellExpiry 20) surging).port 20
    pt.mode = .crowd ∧ pt.dwell = .armed 501740#32 ∧ pt.effFloor = 2 ∧ pt.flight = 64 := by decide

/-- The stale expiry at 501,380: 400 µs remain on the dwell timer. -/
theorem test_stale_expiry_suspends_the_dwell_timer :
    let t := run (.staleExpiry 20) { part 20 { fillPort with
      mode := .crowd, dwell := .armed 501780#32, staleAt := some 501380#32 } with timebase := 501380#32 }
    (t.port 20).stale = true ∧ (t.port 20).dwell = .suspended 400 ∧ t.attn = 0x04#7 := by decide

/-- A resumed dwell timer: 300 µs from 7,090,000 (chapter 01's worked figures). -/
theorem test_dwell_timer_resumes : (Timer.suspended 300).resume 7090000#32 = .armed 7090300#32 := by decide

/-- Event 8 of chapter 05's charging sequence: a draw of 6 cells is reclaimed. -/
theorem test_draw_deadline_reclaims :
    let m : Member := ⟨0, 0x00C1F2#24, false, none, .drawn, 0, 0, 6, 42, 1, 0, some 101000#32⟩
    let g : Gather := { nearlyDone with port := 5, roster := [m], announced := 40 }
    let t := run (.drawDeadlineExpiry 0 0) { part 5 { fillPort with flight := 896, outstanding := 880 } with
      timebase := 101000#32, slots := [(0, ⟨7#8, some g⟩)] }
    (t.port 5).outstanding = 874 ∧ (t.gather? 0).map (fun g => (g.ring, g.roster.map Member.lapses)) =
      some ([0], [1]) := by decide

/-- A draw deadline across the timebase's wrap (chapter 01's worked figures). -/
theorem test_deadline_across_the_wrap :
    after 4294967000#32 500 = 204#32 ∧ reached 100#32 204#32 = false ∧ reached 204#32 204#32 = true := by decide

theorem test_idle_expiry_ends_idle :
    let t := run (.idleExpiry 0) { nearlyDonePart with timebase := 2002101#32 }
    (t.gather? 0).map (fun g => (g.stage, g.lingerAt)) = some (.linger .idle, some 2002301#32) := by decide

theorem test_lifetime_expiry_ends_overdue :
    let t := run (.lifetimeExpiry 0) { nearlyDonePart with timebase := 3000000#32 }
    (t.gather? 0).map Gather.stage = some (.linger .overdue) ∧ (t.port 9).outstanding = 0 := by decide

/-- Profile 2 of chapter 08's worked sequence, with both bounds at 1,200. -/
def heldAt1200 : Table Profile := [(2, { Profile.reset with fMin := 1200#14, fMax := 1000#14 })]

/-- ENABLE_PORT 30 of that sequence: F_init of 1,024 becomes 1,200 and no flag is latched. -/
theorem test_enable_port :
    let t := run (.enablePort 30#8 0#16) { part 30 { Port.reset with profile := 2#3, flight := 2000 } with
      profiles := heldAt1200 }
    let pt := t.port 30
    pt.enabled = true ∧ pt.mode = .calm ∧ pt.flight = 1200 ∧ pt.atFloor = false ∧ t.result = ⟨1#8, 1#8, .ok⟩ := by decide

theorem test_disable_port_frees_its_gathers :
    let t := run (.disablePort 9#8 0#16) nearlyDonePart
    (t.port 9).enabled = false ∧ t.slot 0 = ⟨4#8, none⟩ ∧ (t.port 9).outstanding = 0 := by decide

theorem test_retire_gather :
    let t := run (.retireGather 9#8 0x0100#16) nearlyDonePart
    t.slot 0 = ⟨4#8, none⟩ ∧ (t.port 9).outstanding = 0 ∧ t.result = ⟨1#8, 3#8, .ok⟩ ∧
      (run (.retireGather 9#8 0x0101#16) nearlyDonePart).result = ⟨1#8, 3#8, .noGather⟩ := by decide

theorem test_purge_all :
    let t := run (.purgeAll 0#8 0#16) nearlyDonePart
    t.slot 0 = ⟨4#8, none⟩ ∧ (t.port 9).outstanding = 0 ∧ t.free = [⟨3, 65533⟩, ⟨0, 3⟩] := by decide

/-- Meters 3 and 7 of chapter 09's worked sequence. -/
def drawMeter : Meter :=
  ⟨63#6, .drawCells, .always, .never, .overflow, 1099511627676#40, true, 1099511627676#40, false, true⟩
def trimMeter : Meter := ⟨20#6, .cellsTrimmed, .surgeEntry, .surgeExit, .never, 0#40, false, 0#40, false, false⟩

/-- The draw that overflows meter 3: it takes the reload value and raises METER_OVERFLOW. -/
theorem test_meter_overflow_reloads :
    let s : State := { State.reset with meters := [(3, { drawMeter with count := 1099511627772#40 })] }
    let t := s.offer 5 .drawCells 32
    (t.meter 3).count = 1099511627676#40 ∧ (t.meter 3).overflowed = true ∧ t.attn = 0x40#7 := by decide +kernel

/-- Meter 7 is turned on by SURGE entry at its port and off by its exit. -/
theorem test_meter_follows_surge :
    (trimMeter.surgeEntered 20).counting = true ∧ (trimMeter.surgeEntered 19).counting = false ∧
      ((trimMeter.surgeEntered 20).surgeExited 20).counting = false := by decide

theorem test_meters_start :
    let s : State := { State.reset with
      meters := [(0, { Meter.reset with enableSource := .start, reloadControl := .start, reload := 9#40 })] }
    ((run (.metersStart 0#8 0#16) s).meter 0).counting = true ∧ ((run (.metersStart 0#8 0#16) s).meter 0).count = 9#40 := by
  decide

theorem test_meters_stop :
    let m : Meter := { Meter.reset with disableSource := .stop, counting := true }
    let s : State := { State.reset with meters := [(0, m), (1, { m with enableSource := .always })] }
    let t := run (.metersStop 0#8 0#16) s
    (t.meter 0).counting = false ∧ (t.meter 1).counting = true := by decide

theorem test_bad_command :
    let t := run (.badCommand 9#8 1#8 2#16) State.reset
    t.command = 0x09010002#32 ∧ t.result = ⟨1#8, 9#8, .badCommand⟩ := by decide

/-- The write of F_max = 1,000 of chapter 08's worked sequence, at port 4 with F = 1,200. -/
theorem test_profile_write_clamps :
    let t := run (.profileWrite 0x004003E8#32) { part 4 { fillPort with profile := 2#3, flight := 1200 } with
      select := ⟨0#3, 2#21, 4#8⟩ }
    (t.port 4).flight = 1000 ∧ (t.port 4).atCeiling = true ∧ t.select.word = 5#8 := by decide +kernel

/-- A written 0 is stored as 1 (R150). -/
theorem test_profile_word_replaces_zero : (Profile.reset.store 2 0#32).word 2 = 0x00010001#32 := by decide

theorem test_profile_number_write :
    let t := run (.profileNumberWrite 2#32) { part 4 fillPort with
      profiles := heldAt1200, select := ⟨1#3, 4#21, 0#8⟩ }
    (t.port 4).profile = 2#3 ∧ (t.port 4).flight = 1200 ∧ (t.port 4).atFloor = true := by decide

theorem test_admin_floor_write :
    let t := run (.adminFloorWrite 5#32) { surging with select := ⟨1#3, 20#21, 1#8⟩ }
    (t.port 20).adminFloor = 5#3 ∧ (t.port 20).effFloor = 5 := by decide

/-- The host's read of port 4's status word of chapter 08: FILL, F 1,200, at-floor set, which the read clears. -/
theorem test_port_status_read :
    let t := run .portStatusRead { part 4 { fillPort with flight := 1200, atFloor := true } with
      select := ⟨1#3, 4#21, 2#8⟩ }
    t.readData = 0x04B00009#32 ∧ (t.port 4).atFloor = false ∧ t.select.word = 3#8 := by decide

theorem test_exempt_write :
    (run (.exemptWrite 0xC0000000#32) { State.reset with select := ⟨4#3, 7#21, 0#8⟩ }).window 7 =
      ⟨true, true, 0#8, 0#24, 0#24⟩ := by decide

/-- The configuration of meter 3 of chapter 09: counting is on from the write, and a reload control of 3 is NEVER. -/
theorem test_meter_config_write :
    ((run (.meterConfigWrite 0x1101063F#32) { State.reset with select := ⟨5#3, 3#21, 0#8⟩ }).meter 3) =
        ⟨63#6, .drawCells, .always, .never, .overflow, 0#40, true, 0#40, false, true⟩ ∧
      ((run (.meterConfigWrite 0x03000000#32) { State.reset with select := ⟨5#3, 3#21, 0#8⟩ }).meter 3).reloadControl =
        .never := by decide

/-- 2^40 − 100 is loaded by its two words. -/
theorem test_meter_count_write :
    let low := run (.meterCountWrite 0xFFFFFF9C#32) { State.reset with select := ⟨5#3, 3#21, 1#8⟩ }
    let both := run (.meterCountWrite 0x000000FF#32) low
    (both.meter 3).count = 1099511627676#40 ∧ (both.meter 3).reload = 1099511627676#40 := by decide

theorem test_meter_flag_clear :
    let s : State := { State.reset with
      meters := [(3, { Meter.reset with overflowed := true })], select := ⟨5#3, 3#21, 5#8⟩ }
    ((run (.meterFlagClear 1#32) s).meter 3).overflowed = false := by decide

/-- Word 0 of PROFILE 0 at part reset holds M1 = 256 and M2 = 1,024; the word field wraps from 255. -/
theorem test_table_window_read :
    (run .tableWindowRead State.reset).readData = 0x01000400#32 ∧
      (run .tableWindowRead { State.reset with select := ⟨0#3, 0#21, 255#8⟩ }).select.word = 0#8 := by decide

theorem test_attn_summary_write :
    (run (.attnSummaryWrite 0x05#32) { State.reset with attn := 0x07#7 }).attn = 0x02#7 := by decide

theorem test_attn_enable_write :
    (run (.attnEnableWrite 0x81#32) State.reset).attnEnable = 0x01#7 := by decide

theorem test_pool_low_mark_write :
    (run (.poolLowMarkWrite 0x0001FFFF#32) State.reset).poolLowMark = 65536 ∧
      (run (.poolLowMarkWrite 0x00000400#32) State.reset).poolLowMark = 1024 := by decide

theorem test_register_write :
    (run (.registerWrite 3#4 0xF#4 0x20000401#32) State.reset).select = ⟨1#3, 4#21, 1#8⟩ ∧
      run (.registerWrite 3#4 0x7#4 0x20000401#32) State.reset = State.reset := by decide

theorem test_timebase_wraps :
    (run .timebaseAdvance { State.reset with timebase := 0xFFFFFFFF#32 }).timebase = 0#32 := by decide

/-- The expiry of a deadline at 204 is taken when the timebase reads 204 or 205 (chapter 01's worked figures). -/
theorem test_timebase_waits_for_an_expiry :
    let at_ := fun now => { part 5 { fillPort with staleAt := some 204#32 } with timebase := now }
    (run .timebaseAdvance (at_ 204#32)).timebase = 205#32 ∧ (run .timebaseAdvance (at_ 205#32)).timebase = 205#32 ∧
      (run .timebaseAdvance (run (.staleExpiry 5) (at_ 205#32))).timebase = 206#32 := by decide

/-! ## A safe state with work in flight -/

/-- A member with 8 cells queued. -/
def queuedMember : Member := ⟨0, 0x0000A1#24, true, some 100, .drawn, 0, 8, 0, 2, 0, 0, none⟩
/-- A member on the wait ring. -/
def waitingMember : Member := ⟨1, 0x0000A2#24, true, none, .waiting, 0, 0, 0, 2, 0, 0, none⟩
/-- Their gather. -/
def liveGather : Gather where
  port := 1
  tag := 0x1234#16
  cls := 4
  suspended := false
  allowance := 2
  announced := 2
  roster := [queuedMember, waitingMember]
  ring := [1]
  stage := .active
  idle := some 2000#32
  lifetime := some 1000000#32
  lingerAt := none
/-- Its port, enabled at 0, with the queued cells outstanding and the gather on its queue. -/
def livePort : Port :=
  { Port.reset with enabled := true, staleAt := some 100#32, outstanding := 8, queues := [(4, [0])] }
/-- The draw entry of the queued cells. -/
def liveEntry : Emission := ⟨1, 0x1234#16, 0x0000A1#24, 8, 0, 5#8, 0⟩
/-- The part that holds them, with queries and commands waiting. -/
def live (queries : List (List Word)) (pending : List Instr) : State := { part 1 livePort with
  slots := [(0, ⟨5#8, some liveGather⟩)], free := [⟨2, 65534⟩], emq := [liveEntry], credit := 3
  queryFifo := queries, pending := pending }

theorem live_port (qs : List (List Word)) (cs : List Instr) (p : Nat) :
    (live qs cs).port p = if 1 = p then livePort else Port.reset := rfl
theorem live_slot (qs : List (List Word)) (cs : List Instr) (k : Nat) :
    (live qs cs).slot k = if 0 = k then ⟨5#8, some liveGather⟩ else Slot.reset := rfl
theorem live_gather (qs : List (List Word)) (cs : List Instr) (k : Nat) :
    (live qs cs).gather? k = if 0 = k then some liveGather else none := by
  unfold State.gather?; rw [live_slot]; split <;> rfl
theorem live_queue (qs : List (List Word)) (cs : List Instr) (p c : Nat) :
    ((live qs cs).port p).queue c = if 1 = p ∧ 4 = c then [0] else [] := by
  rw [live_port]
  by_cases hp : 1 = p <;> simp only [hp, ite_true, ite_false, true_and, false_and]
  · exact rfl
  · rfl

/-- The laws hold of it. -/
theorem live_safe (qs : List (List Word)) (cs : List Instr) (hq : qs.length ≤ 64) : (live qs cs).Safe where
  canonical := ⟨Table.wf_nil _, ⟨by simp [live], by simp [live, Slot.reset]⟩,
    ⟨by simp [live, part], by simp only [live, part, List.mem_singleton, forall_eq]; decide⟩, Table.wf_nil _,
    Table.wf_nil _, by simp only [live, part, List.mem_singleton, forall_eq]; decide,
    (by decide : freeWf (live [] []).free)⟩
  bounded := ⟨hq, (by decide : (live [] []).answerFifo.length ≤ 64), (by decide : (live [] []).credit ≤ 1023),
    (by decide : (live [] []).emq.length ≤ 256), (by decide : (live [] []).pointer < 48),
    (by decide : (live [] []).poolLowMark ≤ 65536),
    fun p => by rw [live_port]; split <;> decide, fun p => by rw [live_port]; split <;> decide,
    fun p => by rw [live_port]; split <;> decide⟩
  profiles := fun n => show Profile.reset.Legal by constructor <;> decide
  flight := fun p _ _ => by
    have h : ((live qs cs).profileOf p) = Profile.reset := rfl
    rw [h, live_port]; split <;> decide
  timers := fun p => by rw [live_port]; split <;> decide
  records := ⟨(by decide : ∀ r ∈ (live [] []).records, r.1 < 8192),
    (by decide : ∀ r ∈ (live [] []).records, r.2.lawful = true),
    (by decide : ∀ r ∈ (live [] []).records, ((live [] []).port r.2.port).enabled = true),
    (by decide : ((live [] []).records.map fun r => (r.2.port, r.2.tag)).Nodup)⟩
  queues := fun p _ c => by
    rw [live_queue]
    refine ⟨by split <;> simp, fun k => ?_⟩
    rw [live_gather]
    by_cases hk : 0 = k
    · subst hk
      have hl : liveGather.queued = true ∧ liveGather.port = 1 ∧ liveGather.cls = 4 := by decide
      simp only [ite_true, Option.some.injEq, exists_eq_left', hl.1, hl.2.1, hl.2.2, true_and]
      split <;> simp_all
    · simp only [hk, ite_false]
      split <;> simp [Ne.symm hk]
  draws := by
    intro p _
    have h : (live qs cs).owedAt p = if 1 = p then 8 else 0 := by
      by_cases hp : 1 = p
      · subst hp; rfl
      · simp [State.owedAt, State.records, live, liveGather, hp]
    rw [h, live_port]
    by_cases hp : 1 = p <;> simp [hp, livePort, Port.reset]
  pool := by
    have h1 : freeEntries (live qs cs).free = List.range' 2 65534 := by simp [live, freeEntries]
    have h2 : (live qs cs).heldEntries = List.range' 0 2 := rfl
    have h3 : List.range 65536 = List.range' 0 2 ++ List.range' 2 65534 := by
      rw [List.range_eq_range', List.range'_append]
    show (freeEntries (live qs cs).free ++ (live qs cs).heldEntries).Perm (List.range 65536)
    rw [h1, h2, h3]
    exact List.perm_append_comm
  emissions := (by decide : (live [] []).EmissionsLawful)
  queued := by
    intro r hr _ m hm hq
    have hr' : r = (0, liveGather) := by simpa [State.records, live] using hr
    subst hr'
    have hm' : m = queuedMember ∨ m = waitingMember := by simpa [liveGather] using hm
    rcases hm' with rfl | rfl
    · exact ⟨liveEntry, List.mem_singleton.2 rfl, rfl, rfl, rfl⟩
    · exact absurd hq (by decide)

/-! ## A safe state with a lingering record -/

/-- The live gather in LINGER, closed. -/
def closedGather : Gather := { liveGather.left with stage := .linger .closed, lingerAt := some 300#32 }

/-- The part that holds it. -/
def lingers (queries : List (List Word)) (pending : List Instr) : State :=
  { part 1 { livePort with outstanding := 0, queues := [] } with
    slots := [(0, ⟨5#8, some closedGather⟩)], free := [⟨2, 65534⟩], queryFifo := queries, pending := pending }

theorem lingers_port (qs : List (List Word)) (cs : List Instr) (p : Nat) : (lingers qs cs).port p =
    if 1 = p then { livePort with outstanding := 0, queues := [] } else Port.reset := rfl
theorem lingers_slot (qs : List (List Word)) (cs : List Instr) (k : Nat) :
    (lingers qs cs).slot k = if 0 = k then ⟨5#8, some closedGather⟩ else Slot.reset := rfl
theorem lingers_gather (qs : List (List Word)) (cs : List Instr) (k : Nat) :
    (lingers qs cs).gather? k = if 0 = k then some closedGather else none := by
  unfold State.gather?; rw [lingers_slot]; split <;> rfl

theorem lingers_canonical (qs : List (List Word)) (cs : List Instr) : (lingers qs cs).Canonical :=
  ⟨Table.wf_nil _, ⟨by simp [lingers], by simp [lingers, Slot.reset]⟩,
    ⟨by simp [lingers, part], by simp only [lingers, part, List.mem_singleton, forall_eq]; decide⟩, Table.wf_nil _,
    Table.wf_nil _, by simp only [lingers, part, List.mem_singleton, forall_eq]; decide,
    (by decide : freeWf (lingers [] []).free)⟩

theorem lingers_records (qs : List (List Word)) (cs : List Instr) : (lingers qs cs).RecordsLawful :=
  ⟨(by decide : ∀ r ∈ (lingers [] []).records, r.1 < 8192),
    (by decide : ∀ r ∈ (lingers [] []).records, r.2.lawful = true),
    (by decide : ∀ r ∈ (lingers [] []).records, ((lingers [] []).port r.2.port).enabled = true),
    (by decide : ((lingers [] []).records.map fun r => (r.2.port, r.2.tag)).Nodup)⟩

theorem lingers_safe (qs : List (List Word)) (cs : List Instr) (hq : qs.length ≤ 64) : (lingers qs cs).Safe where
  canonical := lingers_canonical qs cs
  bounded := ⟨hq, (by decide : (lingers [] []).answerFifo.length ≤ 64), (by decide : (lingers [] []).credit ≤ 1023),
    (by decide : (lingers [] []).emq.length ≤ 256), (by decide : (lingers [] []).pointer < 48),
    (by decide : (lingers [] []).poolLowMark ≤ 65536),
    fun p => by rw [lingers_port]; split <;> decide, fun p => by rw [lingers_port]; split <;> decide,
    fun p => by rw [lingers_port]; split <;> decide⟩
  profiles := fun n => show Profile.reset.Legal by constructor <;> decide
  flight := fun p _ _ => by
    have h : ((lingers qs cs).profileOf p) = Profile.reset := by
      simp only [State.profileOf, lingers_port]; split <;> rfl
    rw [h, lingers_port]; split <;> decide
  timers := fun p => by rw [lingers_port]; split <;> decide
  records := lingers_records qs cs
  queues := fun p _ c => by
    have h : ((lingers qs cs).port p).queue c = [] := by rw [lingers_port]; split <;> rfl
    rw [h]
    refine ⟨List.nodup_nil, fun k => ⟨fun hk => absurd hk List.not_mem_nil, ?_⟩⟩
    rintro ⟨g, hg, hgq, -⟩
    rw [lingers_gather] at hg
    split at hg
    · obtain rfl := Option.some.inj hg
      exact absurd hgq (by decide)
    · exact absurd hg (by simp)
  draws := fun p _ => by
    have h : (lingers qs cs).owedAt p = 0 := by
      simp [State.owedAt, State.records, lingers, closedGather]
    rw [h, lingers_port]
    split <;> simp [Port.reset]
  pool := by
    have h1 : freeEntries (lingers qs cs).free = List.range' 2 65534 := by simp [lingers, freeEntries]
    have h2 : (lingers qs cs).heldEntries = List.range' 0 2 := rfl
    have h3 : List.range 65536 = List.range' 0 2 ++ List.range' 2 65534 := by
      rw [List.range_eq_range', List.range'_append]
    show (freeEntries (lingers qs cs).free ++ (lingers qs cs).heldEntries).Perm (List.range 65536)
    rw [h1, h2, h3]
    exact List.perm_append_comm
  emissions := (by decide : (lingers [] []).EmissionsLawful)
  queued := by
    intro r hr hs
    have hr' : r = (0, closedGather) := by simpa [State.records, lingers] using hr
    subst hr'
    exact absurd hs (by decide)

/-! ## What meets the statements' hypotheses: the machine's laws -/

theorem meets_StepRunsFrontCommand :
    (live [] [.timebaseAdvance]).pending = .timebaseAdvance :: [] ∧ (live [] []).pending = [] := ⟨rfl, rfl⟩

theorem meets_SafetyKept : ∃ s t : State, s.Safe ∧ step s = .next t :=
  ⟨live [] [.drawEmission], _, live_safe _ _ (by decide), rfl⟩
theorem meets_CanonicalKept : ∃ s t : State, s.Canonical ∧ step s = .next t :=
  ⟨live [] [.closeQuery], _, (live_safe _ _ (by decide)).canonical, rfl⟩
theorem meets_BoundsKept : ∃ s t : State, s.Bounded ∧ step s = .next t :=
  ⟨live (List.replicate 64 [0#32]) [.queryArrival [0#32]], _, (live_safe _ _ (by simp)).bounded, rfl⟩
theorem meets_FlightBoundsKept : ∃ s t : State, s.ProfilesLegal ∧ s.FlightBounded ∧ step s = .next t :=
  ⟨live [] [.report 1#8 4000#16], _, (live_safe _ _ (by decide)).profiles, (live_safe _ _ (by decide)).flight, rfl⟩
theorem meets_PortTimersKept : ∃ s t : State, s.TimersAgree ∧ step s = .next t :=
  ⟨live [] [.staleExpiry 1], _, (live_safe _ _ (by decide)).timers, rfl⟩
theorem meets_DrawsAccountedKept : ∃ s t : State, s.Safe ∧ step s = .next t :=
  ⟨live [] [.disablePort 1#8 0#16], _, live_safe _ _ (by decide), rfl⟩

/-- The timers of a part with one port agree where that port's do. -/
theorem part_timers (p : Nat) (pt : Port) (h : pt.timersAgree = true) : (part p pt).TimersAgree := fun q => by
  show (if p = q then pt else Port.reset).timersAgree = true
  split
  · exact h
  · decide

/-- A dwell expiry, a part reset, and an enable of a port that was disabled in SURGE each lower the mode. -/
theorem meets_ModeFallsByDwellAlone : ∃ s u : State, s.TimersAgree ∧ u.TimersAgree ∧
    (∃ t, exec (.dwellExpiry 20) s = .next t ∧ (t.port 20).mode.level < (s.port 20).mode.level) ∧
    (∃ t, exec .partReset s = .next t ∧ (t.port 20).mode.level < (s.port 20).mode.level) ∧
    ∃ t, exec (.enablePort 47#8 0#16) u = .next t ∧ (t.port 47).mode.level < (u.port 47).mode.level :=
  ⟨surging, part 47 { Port.reset with mode := .surge }, part_timers 20 _ (by decide), part_timers 47 _ (by decide),
    ⟨_, rfl, by decide⟩, ⟨_, rfl, by decide⟩, ⟨_, rfl, by decide⟩⟩

/-- Each setting changes somewhere. -/
theorem meets_SettingsChangeByTheirWritesAlone :
    (∃ s : State, s.attn.getLsbD 6 = true ∧ (run (.attnSummaryWrite 0x40#32) s).attn.getLsbD 6 = false) ∧
    (run (.attnEnableWrite 1#32) (live [] [])).attnEnable ≠ (live [] []).attnEnable ∧
    (run (.poolLowMarkWrite 0#32) (live [] [])).poolLowMark ≠ (live [] []).poolLowMark ∧
    (∃ s : State, (run (.exemptWrite 0x80000000#32) s).windows ≠ s.windows) ∧
    (∃ s : State, (run (.profileWrite 0#32) s).profiles ≠ s.profiles) ∧
    (∃ s : State, ((run (.profileNumberWrite 7#32) s).port 47).profile ≠ (s.port 47).profile) ∧
    (∃ s : State, ((run (.adminFloorWrite 7#32) s).port 47).adminFloor ≠ (s.port 47).adminFloor) ∧
    ((run (.disablePort 1#8 0#16) (live [] [])).port 1).enabled ≠ ((live [] []).port 1).enabled ∧
    ((run (.enablePort 0#8 0#16) (live [] [])).port 0).enabled ≠ ((live [] []).port 0).enabled :=
  ⟨⟨{ State.reset with attn := 0x40#7 }, by decide⟩, by decide, by decide,
    ⟨{ State.reset with select := ⟨4#3, 7#21, 0#8⟩ }, by decide⟩,
    ⟨{ State.reset with select := ⟨0#3, 7#21, 0#8⟩ }, by decide⟩,
    ⟨{ State.reset with select := ⟨1#3, 47#21, 0#8⟩ }, by decide⟩,
    ⟨{ State.reset with select := ⟨1#3, 47#21, 1#8⟩ }, by decide⟩, by decide, by decide⟩

/-- The OPEN of another key at the live part's port. -/
def openWords : List Word := [0x1A100001#32, 0x56780000#32, 0x000000B1#32, 9#32]

/-- A record that stays, one that lingers, one that goes FREE, and a slot that OPEN fills. -/
theorem meets_RecordLife :
    (∃ s t : State, s.Safe ∧ exec .timebaseAdvance s = .next t ∧ (s.gather? 0).isSome = true ∧
      (t.slot 0).generation = (s.slot 0).generation) ∧
    (∃ s t : State, ∃ g, s.Safe ∧ exec .timebaseAdvance s = .next t ∧ s.gather? 0 = some g ∧ g.stage ≠ .active) ∧
    (∃ s t : State, s.Safe ∧ exec (.purgeAll 0#8 0#16) s = .next t ∧ (t.slot 0).generation ≠ (s.slot 0).generation) ∧
    ∃ s t : State, s.Safe ∧ exec .openQuery s = .next t ∧ s.gather? 1 = none ∧ t.gather? 1 ≠ none :=
  ⟨⟨live [] [], _, live_safe _ _ (by decide), rfl, rfl, rfl⟩,
    ⟨lingers [] [], _, closedGather, lingers_safe _ _ (by decide), rfl, rfl, by decide⟩,
    ⟨live [] [], _, live_safe _ _ (by decide), rfl, by decide⟩,
    ⟨live [openWords] [], _, live_safe _ _ (by decide), rfl, rfl, by decide⟩⟩

theorem meets_RosterGrowsAtTail : ∃ s t : State, ∃ g m, s.Safe ∧ exec .drawEmission s = .next t ∧
    s.gather? 0 = some g ∧ (t.slot 0).generation = (s.slot 0).generation ∧ g.roster[1]? = some m :=
  ⟨live [] [], _, liveGather, waitingMember, live_safe _ _ (by decide), rfl, rfl, by decide, rfl⟩

/-! ## The link -/

theorem meets_ResettingReceivesAndSendsNothing : State.reset.link = .resetting := rfl

/-- A record of the live part whose queued draw the walk zeroes, with its member put back on the ring; a FREE slot; and a
record that the walk puts on its class queue, where it had no waiting member. -/
theorem meets_LinkResetEffects :
    (∃ s : State, s.Safe ∧ s.link = .up ∧ s.gather? 1 = none ∧ s.gather? 0 = some liveGather ∧ s.rewaitedAt 0 = [0] ∧
      s.requeuedAt 1 4 = []) ∧
    State.requeuedAt { live [] [] with slots := [(0, ⟨5#8, some { liveGather with roster := [queuedMember], ring := [] }⟩)] }
      1 4 = [0] :=
  ⟨⟨live [] [], live_safe _ _ (by decide), rfl, rfl, rfl, by decide, by decide⟩, by decide⟩

theorem meets_QueryArrivalAppendsOrOverruns :
    (kindOf [0x70000000#32]).toNat < 8 ∧ (live [] []).link = .up ∧
      (live (List.replicate 63 [0#32]) []).queryFifo.length < 64 ∧
      64 ≤ (live (List.replicate 64 [0#32]) []).queryFifo.length ∧
      (∃ t, exec .partReset (live [] []) = .next t) ∧ (∃ t, exec .linkReset (live [] []) = .next t) ∧
      ∃ t, exec .lossOfFraming (live [] []) = .next t :=
  ⟨by decide, rfl, by simp [live], by simp [live], ⟨_, rfl⟩, ⟨_, rfl⟩, ⟨_, rfl⟩⟩

/-- A departure, a discard of a stale entry, and a credit at its bound. -/
theorem meets_EmissionCredit :
    (∃ t, exec .drawEmission (live [] []) = .next t ∧ t.credit = 2) ∧
      (∃ t, exec .staleDiscard { lingers [] [] with credit := 1, emq := [liveEntry] } = .next t ∧ t.emq = []) ∧
      (∃ t, exec (.emitCredit 1#8) { live [] [] with credit := 1023 } = .next t ∧ t.credit = 1023) ∧
      (live [] []).link = .up ∧ 0 < (live [] []).credit ∧ (live [] []).emq = liveEntry :: [] :=
  ⟨⟨_, rfl, by decide⟩, ⟨_, rfl, by decide⟩, ⟨_, rfl, by decide⟩, rfl, by decide, rfl⟩

theorem meets_MessagesSortedByKindAndLength :
    wordAt [0x7FFFFFFF#32] 0 >>> 28 < 8#32 ∧ wordAt [0x8FFFF02F#32] 0 >>> 28 = 8#32 ∧
      wordAt [0x90100000#32] 0 >>> 28 = 9#32 ∧ (wordAt [0x90100000#32] 0 >>> 20).setWidth 8 ≠ 0#8 ∧
      (wordAt [0x900FFFFF#32] 0 >>> 20).setWidth 8 = 0#8 ∧ wordAt [0xA0000000#32] 0 >>> 28 = 10#32 ∧
      8#32 ≤ wordAt [0x80000000#32, 0#32] 0 >>> 28 ∧ wordAt [0xA0000000#32, 0#32] 0 >>> 28 ≤ 10#32 ∧
      11#32 ≤ wordAt [0xB0000000#32] 0 >>> 28 := by decide

theorem meets_SentMessageLayouts :
    ∃ e : Emission, e.cells < 256 ∧ e.port < 256 ∧ e.cells = 255 ∧ e.port = 47 :=
  ⟨⟨47, 0xFFFF#16, 0xFFFFFF#24, 255, 8191, 255#8, 65535⟩, by decide⟩

/-- FORMAT of a query of no kind and of a wrong length, PORT_RANGE of port 48, PORT_OFF of port 47. -/
theorem meets_LinkChecksAnswerFaults :
    kindOf [0x00000001#32] = 0#4 ∧ kindOf [0x60000001#32] = 6#4 ∧ kindOf [0x70000001#32] = 7#4 ∧
    (live [[0x70000001#32]] []).MayTake [0x70000001#32] ∧
    ((live [[0x40000001#32]] []).MayTake [0x40000001#32] ∧ lengthLegal [0x40000001#32] = false) ∧
    ((live [[0x40000030#32, 0#32]] []).MayTake [0x40000030#32, 0#32] ∧ lengthLegal [0x40000030#32, 0#32] = true ∧
      48 ≤ portOf [0x40000030#32, 0#32]) ∧
    (live [[0x4000002F#32, 0#32]] []).MayTake [0x4000002F#32, 0#32] ∧ lengthLegal [0x4000002F#32, 0#32] = true ∧
      portOf [0x4000002F#32, 0#32] < 48 ∧
      ((live [[0x4000002F#32, 0#32]] []).port (portOf [0x4000002F#32, 0#32])).enabled = false := by decide

/-! ## Gather records -/

theorem meets_GatherIndexIsExact : ∃ s : State, s.Canonical ∧ s.RecordsLawful ∧ s.gather? 0 = some liveGather :=
  ⟨live [] [], (live_safe _ _ (by decide)).canonical, (live_safe _ _ (by decide)).records, rfl⟩

/-- The live part with its first `n` slots held, by records of one key; `q` is the head query. -/
def crowded (n : Nat) (q : List Word) : State :=
  { live [q] [] with slots := (List.range' 0 n).map fun k => (k, ⟨5#8, some liveGather⟩) }

theorem get_crowded (n a k : Nat) : Table.get Slot.reset ((List.range' a n).map fun k => (k, ⟨5#8, some liveGather⟩)) k =
    if a ≤ k ∧ k < a + n then ⟨5#8, some liveGather⟩ else Slot.reset := by
  induction n generalizing a with
  | zero => rw [if_neg (by omega)]; rfl
  | succ n ih =>
    simp only [List.range'_succ, List.map_cons, Table.get, ih]
    by_cases h : a = k
    · rw [if_pos h, if_pos (by omega)]
    · rw [if_neg h]; congr 1; exact propext (by omega)

theorem crowded_gather (n : Nat) (q : List Word) (k : Nat) :
    (crowded n q).gather? k = if k < n then some liveGather else none := by
  have h : (crowded n q).slot k = _ := get_crowded n 0 k
  simp only [Nat.zero_le, true_and, Nat.zero_add] at h
  unfold State.gather?; rw [h]; split <;> rfl

theorem crowded_lookup (n : Nat) (q : List Word) (p : Nat) (t : Tag) (h : t ≠ 0x1234#16) :
    (crowded n q).lookupGather p t = none := by
  have hk : (crowded n q).lookup p t = none := by
    refine List.find?_eq_none.2 fun k _ => ?_
    simp only [State.hasKey, crowded_gather]
    by_cases hn : k < n
    · simp [hn, liveGather, Ne.symm h]
    · simp [hn]
  simp only [State.lookupGather, hk]

theorem free_nodup (n : Nat) (q : List Word) : (freeEntries (crowded n q).free).Nodup := by
  have h : freeEntries (crowded n q).free = List.range' 2 65534 := by simp [crowded, live, freeEntries]
  rw [h]; exact List.nodup_range'

/-- NO_GATHER of an EXTEND, a RECLASS and a CLOSE; GATHER_CLOSED; DUPLICATE_TAG; NO_ROOM with all 8,192 slots held. -/
theorem meets_GatherTableAnswersFaults :
    (∀ q ∈ [[0x20000001#32, 0#32], [0x30000001#32, 0#32], [0x40000001#32, 0#32]],
      (live [q] []).MayTake q ∧ (live [q] []).Accepts q ∧ (live [q] []).lookupGather (portOf q) (tagOf q) = none) ∧
    (∀ q ∈ [[0x20000001#32, 0x12340000#32], [0x30000001#32, 0x12340000#32]],
      (lingers [q] []).MayTake q ∧ (lingers [q] []).Accepts q ∧
        (lingers [q] []).lookupGather (portOf q) (tagOf q) = some (0, closedGather)) ∧
    closedGather.stage = .linger .closed ∧
    (∀ q ∈ [[0x10000001#32, 0x12340000#32]], (live [q] []).MayTake q ∧ (live [q] []).Accepts q ∧
        (live [q] []).lookupGather (portOf q) (tagOf q) = some (0, liveGather)) ∧
    (crowded 8192 openWords).MayTake openWords ∧ (crowded 8192 openWords).Accepts openWords ∧
    (crowded 8192 openWords).lookupGather (portOf openWords) (tagOf openWords) = none ∧
    ∀ k, k < 8192 → ((crowded 8192 openWords).gather? k).isSome = true :=
  ⟨by decide, by decide, by decide, by decide, ⟨rfl, (by decide : 0 < 64), rfl⟩,
    ⟨by decide, by decide, (by decide : ((live [] []).port (portOf openWords)).enabled = true)⟩,
    crowded_lookup _ _ _ _ (by decide), fun k hk => by rw [crowded_gather, if_pos hk]; rfl⟩

/-- Slot 0 of a part that holds none, and slot 8,191 of one that holds all others. -/
theorem meets_OpenTakesLowestFreeSlot : ∀ k ∈ [0, 8191], ∃ s q, State.MayTake s q ∧ kindOf q = 1#4 ∧ s.Accepts q ∧
    (freeEntries s.free).Nodup ∧ s.lookupGather (portOf q) (tagOf q) = none ∧ k < 8192 ∧ s.gather? k = none ∧
    ∀ j, j < k → (s.gather? j).isSome = true := by
  intro k hk
  have hk' : k < 8192 := by rcases List.mem_pair.1 hk with rfl | rfl <;> omega
  exact ⟨crowded k openWords, openWords, ⟨rfl, (by decide : 0 < 64), rfl⟩, by decide,
    ⟨by decide, by decide, (by decide : ((live [] []).port (portOf openWords)).enabled = true)⟩, free_nodup _ _,
    crowded_lookup _ _ _ _ (by decide), hk', by rw [crowded_gather, if_neg (Nat.lt_irrefl k)],
    fun j hj => by rw [crowded_gather, if_pos hj]; rfl⟩

theorem meets_OpenReplacesLingeringRecord : ∃ s q, s.Canonical ∧ s.RecordsLawful ∧ State.MayTake s q ∧
    kindOf q = 1#4 ∧ s.Accepts q ∧ s.lookupGather (portOf q) (tagOf q) = some (0, closedGather) ∧
    closedGather.stage = .linger .closed :=
  ⟨lingers [[0x10000001#32, 0x12340000#32]] [], [0x10000001#32, 0x12340000#32], lingers_canonical _ _,
    lingers_records _ _, by decide⟩

theorem meets_ExtendAddsListedEntries : ∃ s q, State.MayTake s q ∧ kindOf q = 2#4 ∧ s.Accepts q ∧
    s.lookupGather (portOf q) (tagOf q) = some (0, liveGather) ∧ liveGather.stage = .active ∧
    (freeEntries s.free).Nodup ∧ (∀ m ∈ liveGather.roster, m.entry ∉ freeEntries s.free) ∧
    (∀ e ∈ liveGather.ring, e ∉ freeEntries s.free) := by
  have h : freeEntries (live [[0x20100001#32, 0x12340000#32, 0xA3#32, 0#32]] []).free = List.range' 2 65534 := by
    simp [live, freeEntries]
  refine ⟨live [[0x20100001#32, 0x12340000#32, 0xA3#32, 0#32]] [], [0x20100001#32, 0x12340000#32, 0xA3#32, 0#32],
    by decide, by decide, by decide, by decide, by decide, ?_, ?_, ?_⟩
  · rw [h]; exact List.nodup_range'
  · rw [h]
    simp [liveGather, queuedMember, waitingMember]
  · rw [h]
    simp [liveGather]

theorem meets_ReclassSuspendsOrMoves :
    ∀ q ∈ [[0x30000001#32, 0x12340000#32], [0x3E000001#32, 0x12340000#32]],
      (live [q] []).MayTake q ∧ kindOf q = 3#4 ∧ (live [q] []).Accepts q ∧
        (live [q] []).lookupGather (portOf q) (tagOf q) = some (0, liveGather) ∧ liveGather.stage = .active := by decide

theorem meets_EndingsLeaveActive :
    (∀ q ∈ [[0x40000001#32, 0x12340000#32]], (live [q] []).MayTake q ∧ kindOf q = 4#4 ∧ (live [q] []).Accepts q ∧
        (live [q] []).lookupGather (portOf q) (tagOf q) = some (0, liveGather)) ∧
    (live [] []).gather? 0 = some liveGather ∧ liveGather.stage = .active ∧
    liveGather.idle = some 2000#32 ∧ (2000#32 - 2000#32 : Time).toNat < 2 ^ 31 ∧
    liveGather.lifetime = some 1000000#32 ∧ (1000000#32 + 0x7FFFFFFF#32 - 1000000#32 : Time).toNat < 2 ^ 31 := by decide

theorem meets_LingeringRecordClosesAndExpires :
    (∀ q ∈ [[0x40000001#32, 0x12340000#32]], (lingers [q] []).MayTake q ∧ kindOf q = 4#4 ∧ (lingers [q] []).Accepts q ∧
        (lingers [q] []).lookupGather (portOf q) (tagOf q) = some (0, closedGather)) ∧
    (lingers [] []).gather? 0 = some closedGather ∧ closedGather.stage = .linger .closed ∧
    closedGather.lingerAt = some 300#32 ∧ (300#32 - 300#32 : Time).toNat < 2 ^ 31 := by decide

/-! ## Arrivals -/

/-- Window 7 matches by its port, and no lower one. -/
theorem meets_ExemptArrivalPassesUncharged : ∃ s q,
    let matching := fun j : Nat =>
      (s.window j).enabled = true ∧ ((s.window j).scopeAny = true ∨ (s.window j).scopePort.toNat = portOf q) ∧
        tokenOf q &&& (s.window j).mask = (s.window j).base &&& (s.window j).mask
    State.MayTake s q ∧ kindOf q = 5#4 ∧ s.Accepts q ∧ 7 < 8 ∧ matching 7 ∧ ∀ j, j < 7 → ¬matching j :=
  ⟨{ live [[0x50400001#32, 0x12340000#32, 0xA1#32]] [] with windows := [(7, ⟨true, false, 1#8, 0xA0#24, 0xF0#24⟩)] },
    [0x50400001#32, 0x12340000#32, 0xA1#32], by decide⟩

/-- A stray of a tag that is not indexed, and a straggler. -/
theorem meets_StrayAndStragglerFromTheTables :
    (∀ q ∈ [[0x50400001#32, 0#32, 0xA1#32]], (live [q] []).MayTake q ∧ kindOf q = 5#4 ∧ (live [q] []).Accepts q ∧
      (live [q] []).matchingWindow (portOf q) (tokenOf q) = none ∧
      (live [q] []).lookupGather (portOf q) (tagOf q) = none) ∧
    (∀ q ∈ [[0x50400001#32, 0x12340000#32, 0xA1#32]], (lingers [q] []).MayTake q ∧ kindOf q = 5#4 ∧
      (lingers [q] []).Accepts q ∧ (lingers [q] []).matchingWindow (portOf q) (tokenOf q) = none ∧
      (lingers [q] []).lookupGather (portOf q) (tagOf q) = some (0, closedGather)) ∧
    closedGather.stage = .linger .closed := by decide

/-- An arrival of a member, one that completes the worked gather, and one that does not complete the live one. -/
theorem meets_ArrivalOfMember :
    (∀ q ∈ [[0x50400001#32, 0x12340000#32, 0xA1#32]], (live [q] []).MayTake q ∧ kindOf q = 5#4 ∧ (live [q] []).Accepts q ∧
      (live [q] []).matchingWindow (portOf q) (tokenOf q) = none ∧
      (live [q] []).lookupGather (portOf q) (tagOf q) = some (0, liveGather) ∧ liveGather.stage = .active ∧
      liveGather.byToken (tokenOf q) = some queuedMember) ∧
    (∀ m ∈ nearlyDone.roster.head?, ∀ pf ∈ [Profile.reset],
      (nearlyDone.handle pf 0#32 .calm 1 true m).finished = true ∧
        (nearlyDone.handle pf 0#32 .calm 1 true m).gather.isComplete = true) ∧
    (liveGather.handle Profile.reset 0#32 .calm 0 true queuedMember).finished = true ∧
    (liveGather.handle Profile.reset 0#32 .calm 0 true queuedMember).gather.isComplete = false := by decide

/-- A token that joins, and one that finds the pool empty. -/
theorem meets_ArrivalOfUnknownToken :
    (∀ q ∈ [[0x50400001#32, 0x12340000#32, 0xA3#32]], ∀ s ∈ [live [q] [], { live [q] [] with free := [] }],
      s.MayTake q ∧ kindOf q = 5#4 ∧ s.Accepts q ∧ s.matchingWindow (portOf q) (tokenOf q) = none ∧
      s.lookupGather (portOf q) (tagOf q) = some (0, liveGather) ∧ liveGather.stage = .active ∧
      liveGather.byToken (tokenOf q) = none) ∧
    liveGather.roster.length < 256 ∧ (∃ rest, freeEntries (live [] []).free = 2 :: rest) ∧
    (∀ m ∈ liveGather.roster, m.entry ≠ 2) ∧ 2 ∉ liveGather.ring ∧ freeEntries ([] : List Run) = [] :=
  ⟨by decide, by decide, ⟨List.range' 3 65533, by
    show List.range' 2 (65533 + 1) ++ [] = 2 :: List.range' 3 65533
    rw [List.append_nil, List.range'_succ]⟩, by decide, by decide, rfl⟩

/-- A full roster: the live record with 256 members. -/
def fullGather : Gather := { liveGather with
  roster := (List.range' 0 256).map fun e => ⟨e, BitVec.ofNat 24 e, false, none, .opening, 2, 0, 0, 0, 0, 0, none⟩, ring := [] }

theorem meets_ArrivalOfUnknownToken_full :
    ∀ q ∈ [[0x50400001#32, 0x12340000#32, 0x100#32]], ∀ s ∈ [{ live [q] [] with slots := [(0, ⟨5#8, some fullGather⟩)] }],
      s.MayTake q ∧ kindOf q = 5#4 ∧ s.Accepts q ∧ s.matchingWindow (portOf q) (tokenOf q) = none ∧
      (s.lookupGather (portOf q) (tagOf q)).isSome = true ∧ s.gather? 0 = some fullGather ∧ fullGather.stage = .active ∧
      fullGather.byToken (tokenOf q) = none ∧ 256 ≤ fullGather.roster.length := by decide +kernel

/-- Exactly the allowance of an OPENING, a WAITING and a DRAWN member. -/
theorem meets_ChargedArrivalAndFinish :
    (∃ m : Member, m.phase = .opening ∧ m.openLeft = 2 ∧ 2 ≤ m.openLeft + m.drawOut) ∧
      (waitingMember.phase = .waiting ∧ 0 ≤ waitingMember.openLeft + waitingMember.drawOut) ∧
      queuedMember.phase = .drawn ∧ 0 ≤ queuedMember.openLeft + queuedMember.drawOut :=
  ⟨⟨{ queuedMember with phase := .opening, openLeft := 2, drawQueued := 0 }, by decide⟩, by decide⟩

/-- One cell over the allowance, and members that have finished or lapsed. -/
theorem meets_TrimmedAndLapsedArrivals :
    queuedMember.phase = .drawn ∧ queuedMember.openLeft + queuedMember.drawOut < 1 ∧
      (∃ m : Member, m.phase = .finished) ∧ ∃ m : Member, m.phase = .lapsed :=
  ⟨by decide, by decide, ⟨{ queuedMember with phase := .finished }, rfl⟩, ⟨{ queuedMember with phase := .lapsed }, rfl⟩⟩

/-- A member on the ring; one off it that wants more, with draw-out at the mark; one off it that does not. -/
theorem meets_WantingMoreAndReevaluation :
    liveGather.stage = .active ∧ liveGather.roster = [queuedMember] ++ waitingMember :: [] ∧
      liveGather.roster = [] ++ queuedMember :: [waitingMember] ∧
      (liveGather.roster.map Member.entry).Nodup ∧ waitingMember.entry ∈ liveGather.ring ∧
      queuedMember.entry ∉ liveGather.ring ∧ queuedMember.wantsMore Profile.reset = false ∧
      { queuedMember with drawQueued := 0, drawOut := 8 }.wantsMore Profile.reset = true ∧
      { queuedMember with drawQueued := 0, drawOut := 9 }.wantsMore Profile.reset = false := by decide

theorem meets_CompletionTest : ∃ g h : Gather, g.announced = 0 ∧ h.announced = 256 ∧ g.roster = [] :=
  ⟨{ liveGather with announced := 0, roster := [] }, { liveGather with announced := 256 }, rfl, rfl, rfl⟩

/-! ## Draws -/

/-- A record that keeps its place, and one that leaves its queue. -/
theorem meets_ClassQueuePlace :
    (live [] []).gather? 0 = some liveGather ∧ (live [] []).QueuesAgree ∧
    (liveGather.queued = true ∧ { liveGather with idle := none }.queued = true) ∧
    ¬(liveGather.queued = true ∧ { liveGather with suspended := true }.queued = true) :=
  ⟨rfl, (live_safe _ _ (by decide)).queues, by decide, by decide⟩

/-- A valid head entry when the choice is an emission, or an answer with none waiting, or with one waiting. -/
theorem meets_ValidEntryDeparts :
    ∀ s ∈ [{ live [] [] with nextTx := .emission }, live [] [],
      { live [] [] with answerFifo := [⟨4#4, .ok, none, 0#16, 0#8, 0#5, 0#3⟩] }],
      s.link = .up ∧ 0 < s.credit ∧ s.emq = liveEntry :: [] ∧ s.validMember liveEntry = some (liveGather, queuedMember) := by
  decide

/-- A stale head entry; no blocked port; port 47 blocked behind a pointer at 47, where it alone is; and a pointer in range. -/
theorem meets_StaleEntryDiscardedAndPlaceHanded :
    (∃ s : State, s.link = .up ∧ 0 < s.credit ∧ s.emq = liveEntry :: [] ∧ s.validMember liveEntry = none) ∧
    (∀ h, h < 48 → ((live [] []).port h).blocked = false) ∧
    ∃ s : State, s.pointer < 48 ∧ (s.port 47).blocked = true ∧
      (∀ j, j < 48 → (s.port j).blocked = true → (47 + 47 - s.pointer) % 48 ≤ (j + 47 - s.pointer) % 48) ∧
      47 < 48 ∧ 47 ∈ [0, 47] :=
  ⟨⟨{ lingers [] [] with credit := 1, emq := [liveEntry] }, by decide⟩, by decide +kernel,
    ⟨part 47 { Port.reset with blocked := true }, by decide +kernel⟩⟩

/-- No queued gather; a draw over F; a draw at F with the Emission Queue full, and with room. -/
theorem meets_DrawPassStep :
    (∀ c, 1 ≤ c → c ≤ 7 → ((live [] []).port 0).effFloor < c → ((live [] []).port 0).queue c = []) ∧
    (∀ s : State, (∃ o q, s = { live [] [] with ports := [(1, { livePort with outstanding := o })], emq := q }) →
      s.HeadDraw 1 4 0 liveGather waitingMember) ∧
    livePort.flight < 993 + min 32 32 ∧ 992 + min 32 32 ≤ livePort.flight ∧
    256 ≤ (List.replicate 256 liveEntry).length ∧ (live [] []).emq.length < 256 := by
  refine ⟨by decide, ?_, by decide, by decide, List.length_replicate.symm.le, by decide⟩
  rintro s ⟨o, q, rfl⟩
  exact ⟨(by decide : 1 ≤ 4 ∧ 4 ≤ 7 ∧ ((live [] []).port 1).effFloor < 4), (by decide : ∀ c' < 8, 4 < c' → c' ≤ 7 →
    ((live [] []).port 1).queue c' = []) |> fun h c' h1 h2 => h c' (by omega) h1 h2, rfl, rfl, 1, rfl, by decide⟩

theorem meets_DrawPassEndsAndChangesOnlyDraws :
    (live [] []).gather? 0 = some liveGather ∧ (live [] []).gather? 1 = none ∧
      (liveGather.roster.map Member.entry).Nodup ∧ ((live [] []).drawPass 1).emq.length = 2 := by decide +kernel

theorem meets_AnswerSentInTurn :
    ∀ s ∈ [live [] [], { live [] [] with nextTx := .emission }],
      s.link = .up ∧ { s with answerFifo := [⟨4#4, .ok, none, 0#16, 0#8, 0#5, 0#3⟩] }.answerFifo ≠ [] ∧
      0 < s.credit ∧ s.emq.head? = some liveEntry ∧ (s.validMember liveEntry).isSome = true := by decide

/-! ## Ports and time -/

theorem meets_ReportMovesModeAndFlight :
    48 ≤ (48#8).toNat ∧ ((live [] []).port (47#8).toNat).enabled = false ∧
      (live [] []).link = .up ∧ (1#8).toNat < 48 ∧ ((live [] []).port (1#8).toNat).enabled = true := by decide

theorem meets_PortExpiries :
    20 < 48 ∧ (surging.port 20).dwell = .armed 501240#32 ∧ (surging.timebase - 501240#32).toNat < 2 ^ 31 ∧
      ((live [] []).port 1).staleAt = some 100#32 ∧ (100#32 - 100#32 : Time).toNat < 2 ^ 31 := by decide

/-- A deadline reached, below the lapse limit and at it, the completion test failing and met. -/
theorem meets_DrawDeadlineReclaims :
    nearlyDonePart.gather? 0 = some nearlyDone ∧ nearlyDone.stage = .active ∧
    (∃ m : Member, nearlyDone.roster[0]? = some m ∧ m.drawDeadline = some 2000530#32 ∧
      ¬max 1 Profile.reset.lapseLimit.toNat ≤ m.lapses + 1 ∧ max 1 Profile.reset.lapseLimit.toNat ≤ 2 + 1 ∧
      ({ nearlyDone.setMember { m with drawOut := 0, drawDeadline := none, lapses := 3, phase := .lapsed } with
        ring := [] } : Gather).isComplete = true) ∧
    (2000530#32 - 2000530#32 : Time).toNat < 2 ^ 31 :=
  ⟨by decide, by decide, ⟨⟨0, 0x0B0001#24, true, some 40, .drawn, 0, 0, 8, 32, 0, 0, some 2000530#32⟩, by decide⟩, by decide⟩

/-- The live part at a point near the stale deadline 100 of its port; its record's deadlines 2,000 and 1,000,000 are ahead. -/
def liveAt (now : Time) (pending : List Instr) : State := { live [] pending with timebase := now }

theorem liveAt_deadlines (now : Time) (cs : List Instr) :
    (liveAt now cs).deadlines = [100#32, 2000#32, 1000000#32] := rfl

theorem liveAt_awaits (now : Time) (cs : List Instr) (d : Time) :
    (liveAt now cs).Awaits d ↔ d = 100#32 ∨ d = 2000#32 ∨ d = 1000000#32 := by
  rw [← State.mem_deadlines, liveAt_deadlines]; simp

/-- The stale deadline was reached 1 µs ago, the other deadlines are ahead, and no timer is suspended. -/
theorem liveAt_punctual (cs : List Instr) : (liveAt 101#32 cs).Punctual where
  deadlines d h := by
    rcases (liveAt_awaits _ _ _).1 h with rfl | rfl | rfl <;> simp only [liveAt] <;> decide
  remaining p r _ h := by
    have : ((liveAt 101#32 cs).port p).dwell = .absent := by
      show ((live [] cs).port p).dwell = .absent
      rw [live_port]; split <;> rfl
    rw [this] at h; cases h

/-- At the point of the stale deadline the timebase advances; 1 µs later it waits, the part Punctual and the expiry to be
taken next; and deadlines ahead at their nearest point, and absent ones. -/
theorem meets_TimebaseAndDeadlines :
    ((∀ d, (liveAt 100#32 []).Awaits d →
        (liveAt 100#32 []).timebase = d ∨ 2 ^ 31 ≤ ((liveAt 100#32 []).timebase - d).toNat) ∧
      (liveAt 100#32 []).Awaits 100#32) ∧
    ((liveAt 101#32 []).Awaits 100#32 ∧ (liveAt 101#32 []).timebase ≠ 100#32 ∧
      ((liveAt 101#32 []).timebase - 100#32).toNat < 2 ^ 31) ∧
    (∃ s t : State, ∃ d, s.Punctual ∧ s.Awaits d ∧ step s = .next t) ∧
    1 ≤ 65535000 ∧ 65535000 - 1 < 2 ^ 31 ∧ (live [] []).gather? 0 = some liveGather ∧
      liveGather.idle = some 2000#32 ∧ 2 ^ 31 ≤ (1999#32 - 2000#32 : Time).toNat ∧
      liveGather.lifetime = some 1000000#32 ∧ 2 ^ 31 ≤ (999999#32 - 1000000#32 : Time).toNat ∧
      closedGather.lingerAt = some 300#32 ∧ 2 ^ 31 ≤ (299#32 - 300#32 : Time).toNat ∧
      liveGather.roster[0]? = some queuedMember ∧ queuedMember.drawDeadline = none ∧
      livePort.staleAt = some 100#32 ∧ 2 ^ 31 ≤ (99#32 - 100#32 : Time).toNat ∧
      livePort.dwell = .absent ∧ (surging.port 20).dwell = .armed 501240#32 ∧
      2 ^ 31 ≤ (501239#32 - 501240#32 : Time).toNat := by
  refine ⟨⟨fun d h => ?_, (liveAt_awaits _ _ _).2 (.inl rfl)⟩, ⟨(liveAt_awaits _ _ _).2 (.inl rfl), by decide, by decide⟩,
    ⟨liveAt 101#32 [.staleExpiry 1], _, 100#32, liveAt_punctual _, (liveAt_awaits _ _ _).2 (.inl rfl), rfl⟩, by decide⟩
  rcases (liveAt_awaits _ _ _).1 h with rfl | rfl | rfl <;> decide

/-! ## Host commands, tables and registers -/

theorem meets_EnablePort :
    48 ≤ (48#8).toNat ∧ (1#8).toNat < 48 ∧ ((live [] []).port (1#8).toNat).enabled = true ∧
      (47#8).toNat < 48 ∧ ((live [] []).port (47#8).toNat).enabled = false := by decide

theorem meets_DisablePort :
    48 ≤ (255#8).toNat ∧ ((live [] []).port (47#8).toNat).enabled = false ∧
      ((live [] []).port (1#8).toNat).enabled = true ∧ (live [] []).Safe :=
  ⟨by decide, by decide, by decide, live_safe _ _ (by decide)⟩

theorem meets_RetireGather :
    48 ≤ (48#8).toNat ∧ (live [] []).lookupGather 47 0#16 = none ∧
      (lingers [] []).lookupGather 1 0x1234#16 = some (0, closedGather) ∧ closedGather.stage = .linger .closed ∧
      (live [] []).lookupGather 1 0x1234#16 = some (0, liveGather) ∧ liveGather.stage = .active := by decide

theorem meets_PurgeAll : ∃ s : State, s.Safe ∧ (s.gather? 0).isSome = true :=
  ⟨live [] [], live_safe _ _ (by decide), rfl⟩

/-- A meter of port 47 that SURGE entry turns on and its exit turns off, and one of ALL. -/
theorem meets_MeterCommandsReachAllMeters :
    47 < 48 ∧ { trimMeter with port := 47#6 }.port.toNat = 47 ∧ trimMeter.enableSource = .surgeEntry ∧
      trimMeter.disableSource = .surgeExit ∧ trimMeter.enableSource ≠ .always ∧ drawMeter.port = 63#6 := by decide

theorem meets_CommandWordNamesTheCommand : ∀ code ∈ [0#8, 7#8, 255#8], code = 0#8 ∨ 6#8 < code := by decide

/-- Word 4 of profile 7 and word 12 of profile 0. -/
theorem meets_ProfileWriteStoresAndClamps :
    TableSelect.target ⟨0#3, 7#21, 4#8⟩ = .profile 7 4 ∧ TableSelect.target ⟨0#3, 0#21, 12#8⟩ = .profile 0 12 := by decide

theorem meets_PortSettingWrites :
    TableSelect.target ⟨1#3, 47#21, 0#8⟩ = .port 47 0 ∧ TableSelect.target ⟨1#3, 0#21, 1#8⟩ = .port 0 1 := by decide

theorem meets_WindowAndMeterWrites :
    TableSelect.target ⟨4#3, 7#21, 0#8⟩ = .exempt 7 0 ∧ TableSelect.target ⟨4#3, 0#21, 1#8⟩ = .exempt 0 1 ∧
      TableSelect.target ⟨4#3, 7#21, 2#8⟩ = .exempt 7 2 ∧ TableSelect.target ⟨5#3, 15#21, 0#8⟩ = .meter 15 0 ∧
      TableSelect.target ⟨5#3, 0#21, 1#8⟩ = .meter 0 1 ∧ TableSelect.target ⟨5#3, 15#21, 2#8⟩ = .meter 15 2 ∧
      TableSelect.target ⟨5#3, 15#21, 5#8⟩ = .meter 15 5 ∧ (0xFFFFFFFF#32).getLsbD 0 = true := by decide

/-- A selected word that is no status word, and a port's status word. -/
theorem meets_TableReads :
    (∀ p, State.reset.select.target ≠ .port p 2) ∧ TableSelect.target ⟨1#3, 1#21, 2#8⟩ = .port 1 2 ∧
      ((live [] []).port 1).flight < 2 ^ 14 ∧ ((live [] []).port 1).effFloor < 8 ∧
      ((live [] []).port 1).outstanding < 2 ^ 16 :=
  ⟨fun p => (nofun : Target.profile 0 0 ≠ .port p 2), by decide⟩

/-- The first entry beyond each table and the first word beyond each entry name no word, and the last of each names one. -/
theorem meets_TableReads_bounds :
    (∀ x ∈ [(0#3, 8#21, 0#8), (0#3, 7#21, 13#8), (1#3, 48#21, 0#8), (1#3, 47#21, 4#8), (2#3, 8192#21, 0#8),
        (2#3, 8191#21, 6#8), (3#3, 2097151#21, 5#8), (4#3, 8#21, 0#8), (4#3, 7#21, 3#8), (5#3, 16#21, 0#8),
        (5#3, 15#21, 6#8), (6#3, 0#21, 0#8), (7#3, 0#21, 0#8)], TableSelect.target ⟨x.1, x.2.1, x.2.2⟩ = .absent) ∧
    TableSelect.target ⟨0#3, 7#21, 12#8⟩ = .profile 7 12 ∧ TableSelect.target ⟨1#3, 47#21, 3#8⟩ = .port 47 3 ∧
      TableSelect.target ⟨2#3, 8191#21, 5#8⟩ = .gather 8191 5 ∧
      TableSelect.target ⟨3#3, 2097151#21, 4#8⟩ = .roster 8191 255 4 ∧
      TableSelect.target ⟨4#3, 7#21, 2#8⟩ = .exempt 7 2 ∧ TableSelect.target ⟨5#3, 15#21, 5#8⟩ = .meter 15 5 :=
  ⟨by simp only [List.forall_mem_cons]; exact ⟨rfl, rfl, rfl, rfl, rfl, rfl, rfl, rfl, rfl, rfl, rfl, rfl, rfl, nofun⟩, rfl, rfl, rfl, rfl, rfl, rfl⟩

/-- A held slot, a FREE one, a roster position, and one at the roster's size. -/
theorem meets_TableReads_records :
    (live [] []).gather? 8191 = none ∧ (live [] []).gather? 0 = some liveGather ∧ liveGather.cls < 8 ∧
      liveGather.port < 256 ∧ liveGather.allowance < 256 ∧ liveGather.roster.length < 512 ∧ liveGather.announced < 4096 ∧
      liveGather.roster[0]? = some queuedMember ∧ queuedMember.trims < 256 ∧ queuedMember.openLeft < 256 ∧
      queuedMember.drawOut < 512 ∧ queuedMember.lapses < 8 ∧ queuedMember.drawQueued < 256 ∧
      queuedMember.passed < 2 ^ 24 ∧ queuedMember.expected = some 100 ∧ 100 < 2 ^ 16 ∧ liveGather.roster.length ≤ 2 ∧
      State.reset.poolLowMark ≤ 65536 := by decide

/-- A write of three bytes, one of a read-only table word, those of words 0, 2, 3, 8 and 15, and selections of each kind. -/
theorem meets_RegisterWrites :
    0x7#4 ≠ 0xF#4 ∧
      hostWrite 4#4 0xF#4 0#32 { State.reset with select := ⟨2#3, 0#21, 0#8⟩ } = .registerWrite 4#4 0xF#4 0#32 ∧
      (∀ i ∈ [0#4, 2#4, 3#4, 8#4, 15#4], i = 0#4 ∨ i = 2#4 ∨ i = 3#4 ∨ 8#4 ≤ i) ∧
      TableSelect.target ⟨0#3, 7#21, 12#8⟩ = .profile 7 12 ∧ TableSelect.target ⟨1#3, 47#21, 1#8⟩ = .port 47 1 ∧
      TableSelect.target ⟨1#3, 47#21, 2#8⟩ = .port 47 2 ∧ TableSelect.target ⟨1#3, 47#21, 3#8⟩ ≠ .port 47 2 ∧
      TableSelect.target ⟨2#3, 8191#21, 5#8⟩ = .gather 8191 5 ∧
      TableSelect.target ⟨3#3, 2097151#21, 4#8⟩ = .roster 8191 255 4 ∧
      TableSelect.target ⟨4#3, 7#21, 2#8⟩ = .exempt 7 2 ∧ TableSelect.target ⟨5#3, 15#21, 5#8⟩ = .meter 15 5 ∧
      TableSelect.target ⟨5#3, 16#21, 0#8⟩ = .absent ∧ (1#32 : Word).getLsbD 0 = true :=
  ⟨by decide, by decide, by decide, rfl, rfl, rfl, nofun, rfl, rfl, rfl, rfl, rfl, by decide⟩

/-- Meter 15 of ALL counts up to its limit, and one more overflows it; a meter of another port takes nothing. -/
theorem meets_MeterTakesOffer :
    ∀ s ∈ [{ State.reset with meters := [(15, { drawMeter with count := 1099511627520#40 })] }],
      (s.meter 15).counting = true ∧ (s.meter 15).event = .drawCells ∧ (s.meter 15).port = 63#6 ∧
      (s.meter 15).count.toNat + 255 ≤ 2 ^ 40 - 1 ∧
      2 ^ 40 - 1 < ({ s.meter 15 with count := 1099511627521#40 } : Meter).count.toNat + 255 ∧
      (s.meter 0).counting = false := by decide

end Sys2Proof.Tests
end

/-! The state after part reset, the expiries of a port and the arrivals answered from a verdict table. -/

namespace Sys2Proof.Machine

/-- Settles O14: PART_RESET answers the reset state, whose empty tables read as their part reset values. -/
theorem partResetValues : Obligations.PartResetValues := fun s =>
  ⟨_, rfl, rfl, rfl, rfl, rfl, rfl, rfl, rfl, rfl,
    by simp [State.reset, freeEntries, List.range_eq_range'], fun _ => rfl, fun _ => rfl,
    fun _ => ⟨rfl, rfl, rfl, rfl⟩, fun _ => rfl, fun _ => rfl, rfl, rfl, rfl, rfl, rfl, rfl⟩

/-! ## The state after part reset -/

theorem State.reset_port (p : Nat) : State.reset.port p = Port.reset := rfl
theorem State.reset_gather? (k : Nat) : State.reset.gather? k = none := rfl

theorem Profile.reset_legal : Profile.reset.Legal := by constructor <;> decide

/-- Settles O3: the tables are empty, so no record, no queue and no draw stands, and the pool is one run of all entries. -/
theorem resetIsSafe : Obligations.ResetIsSafe where
  canonical := ⟨Table.wf_nil _, Table.wf_nil _, Table.wf_nil _, Table.wf_nil _, Table.wf_nil _, nofun,
    ⟨by simp [State.reset], List.IsChain.singleton _⟩⟩
  bounded := ⟨by decide, by decide, by decide, by decide, by decide, by decide,
    fun _ => by rw [State.reset_port]; decide, fun _ => by rw [State.reset_port]; decide,
    fun _ => by rw [State.reset_port]; decide⟩
  profiles := fun _ => Profile.reset_legal
  flight := fun p _ h => absurd (State.reset_port p ▸ h) (by decide)
  timers := fun p => by rw [State.reset_port]; decide
  records := ⟨nofun, nofun, nofun, List.nodup_nil⟩
  queues := fun p _ c => ⟨List.nodup_nil, fun k => ⟨nofun, by simp [State.reset_gather?]⟩⟩
  draws := fun _ _ => ⟨rfl, fun _ => rfl⟩
  pool := by
    have h : freeEntries State.reset.free ++ State.reset.heldEntries = List.range 65536 := by
      simp [State.reset, State.heldEntries, State.records, freeEntries, List.range_eq_range']
    exact List.Perm.of_eq h
  emissions := nofun
  queued := nofun

/-! ## The expiries of a port -/

theorem Mode.lower_eq (m : Mode) : m.lower = match m with
    | .calm => Mode.calm | .fill => .calm | .crowd => .fill | .surge => .crowd := by cases m <;> rfl

theorem Mode.lower_ne_surge (m : Mode) : m.lower ≠ .surge := by cases m <;> nofun

theorem Profile.dwellTime_eq (pf : Profile) (m : Mode) : pf.dwellTime m = match m with
    | .calm => 0 | .fill => pf.dwellFill.toNat | .crowd => pf.dwellCrowd.toNat | .surge => pf.dwellSurge.toNat := by
  cases m <;> rfl

/-- A dwell expiry leaves SURGE where the mode was SURGE, enters it never, and gives notice exactly where the effective
floor fell (R113, R116). -/
theorem State.applyPort_dwellFall (s : State) (p : Nat) (pf : Profile) (now : Time) (pt : Port) :
    s.applyPort p pt (pt.dwellFall pf now) =
      (if pt.mode = .surge then (s.setPort p (pt.dwellFall pf now)).mapMeters (Meter.surgeExited p)
        else s.setPort p (pt.dwellFall pf now)).passIf (decide ((pt.dwellFall pf now).effFloor < pt.effFloor)) p := by
  have hmode : (pt.dwellFall pf now).mode = pt.mode.lower := rfl
  have hflight : (pt.dwellFall pf now).flight = pt.flight := rfl
  simp [State.applyPort, entersSurge, leavesSurge, givesNotice, hmode, hflight, Mode.lower_ne_surge, State.surgeExit]

/-- A suspended timer keeps its remaining time (R13). -/
theorem Timer.suspend_eq (now : Time) (t : Timer) : t.suspend now = match t with
    | .armed d => .suspended (if (now - d).toNat < 2 ^ 31 then 0 else (d - now).toNat)
    | other => other := by
  cases t <;> simp [Timer.suspend, remaining, reached]

theorem reached_of_lt {now d : Time} (h : (now - d).toNat < 2 ^ 31) : reached now d = true := decide_eq_true h

/-- Settles O45: a due dwell deadline makes the port fall one level, a due stale deadline makes it STALE. -/
theorem portExpiries : Obligations.PortExpiries := by
  refine ⟨fun s p d hp hd hdue => ?_, fun s p d hp hd hdue => ?_⟩
  · have hrun : exec (.dwellExpiry p) s =
        .next (s.applyPort p (s.port p) ((s.port p).dwellFall (s.profileOf p) s.timebase)) := by
      simp [exec, execDwellExpiry, Config.ports, hp, hd, Timer.isDue, reached_of_lt hdue]
    rw [hrun, State.applyPort_dwellFall, Port.dwellFall, Port.refloor, Profile.armDwell, Profile.floor,
      Profile.dwellTime_eq, Mode.lower_eq]
    rfl
  · have hrun : exec (.staleExpiry p) s =
        .next ((s.setPort p ((s.port p).goStale s.timebase)).raise .reportStale) := by
      simp [exec, execStaleExpiry, Config.ports, hp, hd, due, reached_of_lt hdue]
    rw [hrun, Port.goStale, Timer.suspend_eq]
    rfl

/-! ## Arrivals answered from a verdict table -/

theorem Verdict.event_eq (v : Verdict) : v.event = match v with
    | .pass => MeterEvent.cellsPassed | .mark => .cellsMarked | .trim => .cellsTrimmed := by cases v <;> rfl

/-- An ARRIVE that is taken and passes the checks is classified (R30). -/
theorem exec_arrive_accepts {s : State} {q : List Word} (h : s.MayTake q) (hk : kindOf q = 5#4) (ha : s.Accepts q) :
    exec .arriveQuery s = .next (s.popQuery.classify q) :=
  congrArg Host.Outcome.next (State.takeQuery_accepts _ _ h ha (by simp [hk]))

/-- Settles O31: an arrival outside every window goes to the stray table without a record, to the straggler table with a
record in LINGER. -/
theorem strayAndStragglerFromTheTables : Obligations.StrayAndStragglerFromTheTables := by
  intro s q h hk ha hw
  have hw' : s.popQuery.matchingWindow (portOf q) (tokenOf q) = none := hw
  refine ⟨fun hl => ?_, fun k g o hl ho => ?_⟩
  · rw [exec_arrive_accepts h hk ha, State.classify, hw']
    simp only [State.popQuery_lookupGather, hl, State.arriveStray, State.answerTable, State.answerVerdict,
      Verdict.event_eq, hk]
    rfl
  · rw [exec_arrive_accepts h hk ha, State.classify, hw']
    simp only [State.popQuery_lookupGather, hl, ho, State.arriveStraggler, State.answerTable, State.answerVerdict,
      Verdict.event_eq, hk]
    rfl

end Sys2Proof.Machine

/-! The form of the state: the canonical storage, the bounds, the profiles' stored values, the flight bounds and the timers
as one predicate, and the operations on the state that keep it. -/

namespace Sys2Proof.Machine

/-! ## The form of a port and of the state -/

/-- The laws of port `p` alone, under the profile `pf` that it names (R97, R98, R112, R114, R121; log 11). -/
structure Port.Formed (p : Nat) (pf : Profile) (pt : Port) : Prop where
  flight : pt.flight ≤ 16383
  outstanding : pt.outstanding ≤ 16383
  effFloor : pt.effFloor ≤ 7
  range : p < 48 → pt.enabled = true → pf.fMin.toNat ≤ pt.flight ∧ pt.flight ≤ pf.fMaxe
  timers : pt.timersAgree = true
  queues : Table.wf [] pt.queues

/-- The laws of the state that speak of no record, with room for at most `n` answers in the Answer FIFO: 64 between
commands, 63 where a query has been taken and is still to be answered (R17, R18). -/
structure State.Formed (n : Nat) (s : State) : Prop where
  windows : Table.wf Window.reset s.windows
  slots : Table.wf Slot.reset s.slots
  ports : Table.wf Port.reset s.ports
  profiles : Table.wf Profile.reset s.profiles
  meters : Table.wf Meter.reset s.meters
  free : freeWf s.free
  queryFifo : s.queryFifo.length ≤ 64
  answerFifo : s.answerFifo.length ≤ n
  credit : s.credit ≤ 1023
  emq : s.emq.length ≤ 256
  pointer : s.pointer < 48
  poolLowMark : s.poolLowMark ≤ 65536
  legal : s.ProfilesLegal
  port : ∀ p, (s.port p).Formed p (s.profileOf p)

/-- The queues of every listed port are canonical exactly where those of every port are (log 11). -/
theorem State.queues_wf_iff {s : State} (h : Table.wf Port.reset s.ports) :
    (∀ e ∈ s.ports, Table.wf [] e.2.queues) ↔ ∀ p, Table.wf [] (s.port p).queues := by
  constructor
  · intro hq p
    by_cases hr : s.port p = Port.reset
    · rw [hr]; exact Table.wf_nil _
    · exact hq _ (Table.mem_of_get_ne _ _ _ hr)
  · intro hq e he
    have := hq e.1
    rwa [State.port, Table.get_of_mem _ _ h.1 he] at this

/-- A safe state has the form. -/
theorem State.Safe.formed {s : State} (h : s.Safe) : s.Formed 64 where
  windows := h.canonical.windows
  slots := h.canonical.slots
  ports := h.canonical.ports
  profiles := h.canonical.profiles
  meters := h.canonical.meters
  free := h.canonical.free
  queryFifo := h.bounded.queryFifo
  answerFifo := h.bounded.answerFifo
  credit := h.bounded.credit
  emq := h.bounded.emq
  pointer := h.bounded.pointer
  poolLowMark := h.bounded.poolLowMark
  legal := h.profiles
  port := fun p => ⟨h.bounded.flight p, h.bounded.outstanding p, h.bounded.effFloor p, h.flight p, h.timers p,
    (State.queues_wf_iff h.canonical.ports).1 h.canonical.queues p⟩

section
variable {n : Nat} {s : State}

/-! ## Changes of a table's entry -/

theorem State.profileOf_setPort (p q : Nat) (v : Port) :
    (s.setPort p v).profileOf q = if q = p then s.profileAt v.profile.toNat else s.profileOf q := by
  simp only [State.profileOf, State.port_setPort]; split <;> rfl

theorem State.Formed.setPort (h : s.Formed n) {p : Nat} {v : Port} (hv : v.Formed p (s.profileAt v.profile.toNat)) :
    (s.setPort p v).Formed n :=
  { h with
    ports := Table.wf_set _ _ _ _ h.ports
    port := fun q => by
      rw [State.profileOf_setPort, State.port_setPort]
      split
      · rename_i hq; exact hq ▸ hv
      · exact h.port q }

/-- What two ports of the same settings and pressure agree in. -/
theorem Port.SamePressure.agree {v pt : Port} (hs : v.SamePressure pt) :
    v.enabled = pt.enabled ∧ v.profile = pt.profile ∧ v.flight = pt.flight ∧ v.effFloor = pt.effFloor ∧
      v.timersAgree = pt.timersAgree := by
  have h : ∀ {α : Type} (f : Port → α), f { v with outstanding := 0, queues := [], blocked := false } =
      f { pt with outstanding := 0, queues := [], blocked := false } := fun f => congrArg f hs
  exact ⟨h Port.enabled, h Port.profile, h Port.flight, h Port.effFloor, h Port.timersAgree⟩

/-- A change of a port's draw state alone keeps the port's form. -/
theorem Port.Formed.drawState {p : Nat} {pf : Profile} {pt v : Port} (h : pt.Formed p pf) (hs : v.SamePressure pt)
    (ho : v.outstanding ≤ 16383) (hq : Table.wf [] v.queues) : v.Formed p pf := by
  obtain ⟨henabled, -, hflight, hfloor, htimers⟩ := hs.agree
  exact ⟨hflight ▸ h.flight, ho, hfloor ▸ h.effFloor, by rw [hflight, henabled]; exact h.range, htimers ▸ h.timers, hq⟩

/-- A change of a port's draw state alone keeps the form. -/
theorem State.Formed.setDrawState (h : s.Formed n) {p : Nat} {v : Port} (hs : v.SamePressure (s.port p))
    (ho : v.outstanding ≤ 16383) (hq : Table.wf [] v.queues) : (s.setPort p v).Formed n := by
  exact h.setPort (by rw [hs.agree.2.1]; exact (h.port p).drawState hs ho hq)

theorem State.Formed.setSlot (h : s.Formed n) (k : Nat) (v : Slot) : (s.setSlot k v).Formed n :=
  { h with slots := Table.wf_set _ _ _ _ h.slots }

theorem State.Formed.setGather (h : s.Formed n) (k : Nat) (g : Gather) : (s.setGather k g).Formed n := h.setSlot k _

/-! ## Attention, meters and answers -/

theorem State.Formed.raise (h : s.Formed n) (src : AttnSource) : (s.raise src).Formed n := { h with }

theorem State.Formed.raiseIf (h : s.Formed n) (b : Bool) (src : AttnSource) : (s.raiseIf b src).Formed n := { h with }

theorem State.Formed.setMeters (h : s.Formed n) {bank : Table Meter} (hb : Table.wf Meter.reset bank) (attn : BitVec 7) :
    ({ s with meters := bank, attn := attn }).Formed n :=
  { h with meters := hb }

theorem State.Formed.mapMeters (h : s.Formed n) (f : Meter → Meter) : (s.mapMeters f).Formed n :=
  { h with meters := mapMeters_wf f _ h.meters }

theorem State.Formed.offerTo (h : s.Formed n) (sel : BitVec 6) (ev : MeterEvent) (inc : Nat) :
    (s.offerTo sel ev inc).Formed n := by
  rw [State.offerTo]
  exact h.setMeters (mapMeters_wf _ _ h.meters) _

theorem State.Formed.offer (h : s.Formed n) (p : Nat) (ev : MeterEvent) (inc : Nat) : (s.offer p ev inc).Formed n :=
  (h.offerTo _ ev inc).offerTo _ ev inc

/-! ## Records and their accounts -/

theorem State.Formed.giveBack (h : s.Formed n) (p cells : Nat) : (s.giveBack p cells).Formed n :=
  h.setDrawState rfl (Nat.le_trans (Nat.sub_le _ _) (h.port p).outstanding) (h.port p).queues

theorem State.Formed.setQueue (h : s.Formed n) (p c : Nat) (q : List Nat) :
    (s.setPort p ((s.port p).setQueue c q)).Formed n :=
  h.setDrawState rfl (h.port p).outstanding (Table.wf_set _ _ _ _ (h.port p).queues)

theorem State.Formed.putGather (h : s.Formed n) (k : Nat) (old new : Gather) : (s.putGather k old new).Formed n := by
  have hd : (if old.queued && !keepsPlace old new then s.dequeue old.port old.cls k else s).Formed n := by
    split
    · exact h.setQueue _ _ _
    · exact h
  unfold State.putGather
  refine State.Formed.setGather ?_ k new
  split
  · exact hd.setQueue _ _ _
  · exact hd

theorem State.Formed.leaveActive (h : s.Formed n) (k : Nat) (g : Gather) : (s.leaveActive k g).Formed n :=
  (h.putGather k g g.left).giveBack _ _

theorem State.Formed.freeSlot (h : s.Formed n) (k : Nat) (g : Gather) : (s.freeSlot k g).Formed n :=
  State.Formed.setSlot (s := { s with free := (g.roster.map Member.entry).foldl appendFree s.free })
    { h with free := appendAll_wf _ _ h.free } k _

/-! ## Draws -/

theorem State.Formed.issue (h : s.Formed n) {p : Nat} {d : Draw}
    (ho : (s.port p).outstanding + d.cells ≤ (s.port p).flight) (hlen : s.emq.length < 256) :
    (s.issue p d).Formed n := by
  have hport : (s.setPort p ((s.port p).issued d)).Formed n :=
    h.setDrawState rfl (Nat.le_trans ho (h.port p).flight) (Table.wf_set _ _ _ _ (h.port p).queues)
  have hrec := hport.setGather d.slot (d.gather.issue d.cells d.member)
  refine State.Formed.offer (State.Formed.offer (s := { (s.setPort p ((s.port p).issued d)).setGather d.slot
    (d.gather.issue d.cells d.member) with emq := s.emq ++ [s.emissionOf p d] }) { hrec with emq := ?_ } _ _ _) _ _ _
  rw [List.length_append]
  exact hlen

end

end Sys2Proof.Machine

/-! The laws of the records and of what accounts for them (class queues, outstanding draw totals, pool and Emission Queue),
slot by slot, and the change of one record. -/

namespace Sys2Proof.Machine

/-! ## The records: that of one slot and the others -/

/-- The records of a slot table. -/
def recordsIn (t : Table Slot) : List (Nat × Gather) := t.filterMap fun e => e.2.body.map fun g => (e.1, g)

theorem State.records_eq (s : State) : s.records = recordsIn s.slots := rfl

/-- The records of the slots other than `k`. -/
def State.recordsBut (k : Nat) (s : State) : List (Nat × Gather) := recordsIn (Table.erase s.slots k)

theorem Table.insert_perm {α : Type} (t : Table α) (k : Nat) (v : α) : (Table.insert t k v).Perm ((k, v) :: t) := by
  induction t with
  | nil => exact List.Perm.refl _
  | cons x t ih =>
    rw [Table.insert]
    split
    · exact List.Perm.refl _
    · exact (ih.cons x).trans (List.Perm.swap _ _ _)

/-- The records are that of slot `k`, where it holds one, and the others. -/
theorem State.records_perm {s : State} (h : Table.wf Slot.reset s.slots) (k : Nat) :
    s.records.Perm ((s.gather? k).toList.map (fun g => (k, g)) ++ s.recordsBut k) := by
  have hset : s.slots = Table.set Slot.reset s.slots k (s.slot k) := (Table.set_get _ _ _ h).symm
  rw [State.records_eq, hset, Table.set, State.gather?]
  split
  · rename_i hr
    rw [hr]; exact List.Perm.refl _
  · refine ((Table.insert_perm _ _ _).filterMap _).trans ?_
    cases hb : (s.slot k).body <;> simp [hb, State.recordsBut, recordsIn]

/-- The other records are those of the other slots. -/
theorem State.recordsBut_congr {s t : State} {k : Nat} (hs : Table.wf Slot.reset s.slots)
    (ht : Table.wf Slot.reset t.slots) (h : ∀ j, j ≠ k → t.slot j = s.slot j) : t.recordsBut k = s.recordsBut k := by
  refine congrArg recordsIn (Table.ext_of_get Slot.reset _ _ (Table.wf_erase _ _ _ ht) (Table.wf_erase _ _ _ hs)
    fun j => ?_)
  by_cases hj : j = k
  · subst hj; rw [Table.get_erase_self, Table.get_erase_self]
  · rw [Table.get_erase_ne _ _ hj, Table.get_erase_ne _ _ hj]; exact h j hj

theorem State.mem_records {s : State} (h : Table.wf Slot.reset s.slots) (k : Nat) (g : Gather) :
    (k, g) ∈ s.records ↔ s.gather? k = some g := by
  rw [(State.records_perm h k).mem_iff, List.mem_append]
  have hbut : (k, g) ∉ s.recordsBut k := by
    intro hm
    obtain ⟨e, he, heq⟩ := List.mem_filterMap.1 hm
    have hne := Table.not_mem_erase _ _ e he
    simp only [Option.map_eq_some_iff, Prod.mk.injEq] at heq
    obtain ⟨_, -, hk, -⟩ := heq
    exact hne hk
  cases hg : s.gather? k <;> simp [hbut, eq_comm]

/-- The cells that a record owes port `p`: those of its draws while it is an ACTIVE record of the port (R121). -/
def Gather.owedFor (p : Nat) (g : Gather) : Nat := if g.port = p ∧ g.stage = .active then g.owed else 0

theorem State.owedAt_eq (s : State) (p : Nat) : s.owedAt p = (s.records.map fun r => r.2.owedFor p).sum := by
  unfold State.owedAt
  induction s.records with
  | nil => rfl
  | cons r l ih =>
    by_cases hr : r.2.port = p ∧ r.2.stage = .active
    · simp [Gather.owedFor, hr, ih]
    · have hf : (decide (r.2.port = p) && decide (r.2.stage = .active)) = false := by simpa using hr
      rw [List.filter_cons, hf]
      simp [Gather.owedFor, hr, ih]

/-- A port's draws are those of slot `k`'s record and those of the others. -/
theorem State.owedAt_split {s : State} (h : Table.wf Slot.reset s.slots) (k p : Nat) :
    s.owedAt p = ((s.gather? k).toList.map (Gather.owedFor p)).sum +
      ((s.recordsBut k).map fun r => r.2.owedFor p).sum := by
  rw [State.owedAt_eq, ((State.records_perm h k).map _).sum_eq, List.map_append, List.sum_append, List.map_map]
  rfl

/-- The pool entries that a record holds. -/
def Gather.entries (g : Gather) : List Nat := g.roster.map Member.entry

theorem State.heldEntries_perm {s : State} (h : Table.wf Slot.reset s.slots) (k : Nat) :
    s.heldEntries.Perm ((s.gather? k).toList.flatMap Gather.entries ++
      (s.recordsBut k).flatMap fun r => r.2.entries) := by
  refine ((State.records_perm h k).flatMap_right _).trans ?_
  rw [List.flatMap_append, List.flatMap_map]
  exact List.Perm.refl _

/-! ## The laws of the records, slot by slot -/

/-- The laws of the records and of what accounts for them, slot by slot: `State.Safe` but for `State.Formed`. -/
structure State.Work (s : State) : Prop where
  slot : ∀ k g, s.gather? k = some g → k < 8192
  lawful : ∀ k g, s.gather? k = some g → g.lawful = true
  enabled : ∀ k g, s.gather? k = some g → (s.port g.port).enabled = true
  keys : ∀ j k g h, s.gather? j = some g → s.gather? k = some h → g.port = h.port → g.tag = h.tag → j = k
  queues : s.QueuesAgree
  draws : ∀ p, p < 48 → (s.port p).outstanding = s.owedAt p
  pool : s.PoolPartitioned
  emissions : s.EmissionsLawful
  queued : ∀ k g, s.gather? k = some g → g.stage = .active → ∀ m ∈ g.roster, 0 < m.drawQueued →
    ∃ e ∈ s.emq, e.slot = k ∧ e.entry = m.entry ∧ s.validMember e = some (g, m)

/-- The keys of the records are distinct exactly where no two slots hold the same key (R35). -/
theorem State.keys_nodup_iff {s : State} (h : Table.wf Slot.reset s.slots) :
    (s.records.map fun r => (r.2.port, r.2.tag)).Nodup ↔
      ∀ j k g h, s.gather? j = some g → s.gather? k = some h → g.port = h.port → g.tag = h.tag → j = k := by
  have hn : s.records.Nodup := by
    have hp : (s.records.map Prod.fst).Pairwise (· < ·) := by
      have : (s.records.map Prod.fst).Sublist (s.slots.map Prod.fst) := by
        rw [State.records_eq, recordsIn]
        induction s.slots with
        | nil => exact List.Sublist.refl _
        | cons e l ih =>
          cases hb : e.2.body with
          | none => simpa [hb] using ih.cons _
          | some g => simpa [hb] using ih
      exact (List.pairwise_map.2 h.1).sublist this
    exact List.Pairwise.of_map Prod.fst (fun _ _ hlt heq => absurd (heq ▸ hlt) (Nat.lt_irrefl _)) hp
  constructor
  · intro hk j k g g' hg hg' hport htag
    have := List.inj_on_of_nodup_map hk ((State.mem_records h j g).2 hg) ((State.mem_records h k g').2 hg')
      (by rw [hport, htag])
    exact congrArg Prod.fst this
  · intro hk
    refine List.Nodup.map_on (fun a ha b hb hab => ?_) hn
    have ha' := (State.mem_records h a.1 a.2).1 ha
    have hb' := (State.mem_records h b.1 b.2).1 hb
    simp only [Prod.mk.injEq] at hab
    have hj := hk a.1 b.1 a.2 b.2 ha' hb' hab.1 hab.2
    rw [hj, hb'] at ha'
    exact Prod.ext hj (Option.some.inj ha').symm

theorem State.Safe.work {s : State} (h : s.Safe) : s.Work := by
  have hm := fun k g => State.mem_records h.canonical.slots k g
  exact {
    slot := fun k g hg => h.records.slots (k, g) ((hm k g).2 hg)
    lawful := fun k g hg => h.records.lawful (k, g) ((hm k g).2 hg)
    enabled := fun k g hg => h.records.enabled (k, g) ((hm k g).2 hg)
    keys := (State.keys_nodup_iff h.canonical.slots).1 h.records.keys
    queues := h.queues
    draws := fun p hp => (h.draws p hp).1
    pool := h.pool
    emissions := h.emissions
    queued := fun k g hg => h.queued (k, g) ((hm k g).2 hg) }

/-- A port without a record owes nothing. -/
theorem State.owedAt_eq_zero {s : State} (h : Table.wf Slot.reset s.slots) {p : Nat}
    (hp : ∀ k g, s.gather? k = some g → g.port ≠ p) : s.owedAt p = 0 := by
  rw [State.owedAt_eq]
  refine List.sum_eq_zero fun n hn => ?_
  obtain ⟨r, hr, rfl⟩ := List.mem_map.1 hn
  simp [Gather.owedFor, hp r.1 r.2 ((State.mem_records h r.1 r.2).1 hr)]

/-- A state of the form whose records are lawful is safe; that a disabled port owes nothing follows, for its records'
ports are enabled (R121). -/
theorem State.Work.safe {s : State} (h : s.Work) (hf : s.Formed 64) : s.Safe where
  canonical := ⟨hf.windows, hf.slots, hf.ports, hf.profiles, hf.meters,
    (State.queues_wf_iff hf.ports).2 fun p => (hf.port p).queues, hf.free⟩
  bounded := ⟨hf.queryFifo, hf.answerFifo, hf.credit, hf.emq, hf.pointer, hf.poolLowMark, fun p => (hf.port p).flight,
    fun p => (hf.port p).outstanding, fun p => (hf.port p).effFloor⟩
  profiles := hf.legal
  flight := fun p => (hf.port p).range
  timers := fun p => (hf.port p).timers
  records := by
    have hm := fun r : Nat × Gather => State.mem_records hf.slots r.1 r.2
    exact ⟨fun r hr => h.slot r.1 r.2 ((hm r).1 hr), fun r hr => h.lawful r.1 r.2 ((hm r).1 hr),
      fun r hr => h.enabled r.1 r.2 ((hm r).1 hr), (State.keys_nodup_iff hf.slots).2 h.keys⟩
  queues := h.queues
  draws := fun p hp => by
    refine ⟨h.draws p hp, fun hd => ?_⟩
    rw [h.draws p hp]
    refine State.owedAt_eq_zero hf.slots fun k g hg hport => ?_
    have := h.enabled k g hg
    rw [hport, hd] at this
    exact Bool.noConfusion this
  pool := h.pool
  emissions := h.emissions
  queued := fun r hr => h.queued r.1 r.2 ((State.mem_records hf.slots r.1 r.2).1 hr)

/-! ## What the records do not read -/

theorem State.gather?_congr {s t : State} {k : Nat} (h : t.slot k = s.slot k) : t.gather? k = s.gather? k :=
  congrArg Slot.body h

theorem State.validMember_congr {s t : State} {e : Emission} (h : t.slot e.slot = s.slot e.slot) :
    t.validMember e = s.validMember e := by
  unfold State.validMember
  rw [State.gather?_congr h, h]

/-- A change that leaves the records, the pool, the Emission Queue and the ports' queues and totals, and disables no port,
keeps the laws of the records. -/
theorem State.Work.congr {s t : State} (h : s.Work) (hslots : t.slots = s.slots) (hfree : t.free = s.free)
    (hemq : t.emq = s.emq) (henabled : ∀ p, (s.port p).enabled = true → (t.port p).enabled = true)
    (hdraws : ∀ p, (t.port p).outstanding = (s.port p).outstanding ∧ (t.port p).queues = (s.port p).queues) : t.Work := by
  have hslot : ∀ k, t.slot k = s.slot k := fun k => by rw [State.slot, hslots]; rfl
  have hg : ∀ k, t.gather? k = s.gather? k := fun k => State.gather?_congr (hslot k)
  have hrec : t.records = s.records := by rw [State.records, hslots]; rfl
  have hqueue : ∀ p c, (t.port p).queue c = (s.port p).queue c := fun p c => by rw [Port.queue, (hdraws p).2]; rfl
  exact {
    slot := fun k g h' => h.slot k g (hg k ▸ h')
    lawful := fun k g h' => h.lawful k g (hg k ▸ h')
    enabled := fun k g h' => henabled _ (h.enabled k g (hg k ▸ h'))
    keys := fun j k g g' h1 h2 => h.keys j k g g' (hg j ▸ h1) (hg k ▸ h2)
    queues := fun p hp c => by simp only [hqueue, hg]; exact h.queues p hp c
    draws := fun p hp => by rw [(hdraws p).1, State.owedAt, hrec]; exact h.draws p hp
    pool := by show List.Perm _ _; rw [hfree, State.heldEntries, hrec]; exact h.pool
    emissions := by show ∀ e ∈ t.emq, _; rw [hemq]; exact h.emissions
    queued := fun k g h' => by
      simp only [hemq, State.validMember_congr (hslot _)]
      exact h.queued k g (hg k ▸ h') }

/-! ## The change of one record -/

/-- `t` is `s` but for the record of slot `k`, which is now `new`, and for what accounts for it: the class queues, the
outstanding draw totals, the pool and the Emission Queue have changed with the record. -/
structure State.Rewrites (k : Nat) (new : Option Gather) (s t : State) : Prop where
  record : t.gather? k = new
  others : ∀ j, j ≠ k → t.slot j = s.slot j
  slots : Table.wf Slot.reset t.slots
  enabled : ∀ p, (s.port p).enabled = true → (t.port p).enabled = true
  nodup : ∀ p, p < 48 → ∀ c, ((t.port p).queue c).Nodup
  queueOthers : ∀ p, p < 48 → ∀ c j, j ≠ k → (j ∈ (t.port p).queue c ↔ j ∈ (s.port p).queue c)
  queueSelf : ∀ p, p < 48 → ∀ c, k ∈ (t.port p).queue c ↔
    ∃ g, new = some g ∧ g.queued = true ∧ g.port = p ∧ g.cls = c
  draws : ∀ p, p < 48 → (t.port p).outstanding + ((s.gather? k).toList.map (Gather.owedFor p)).sum =
    (s.port p).outstanding + (new.toList.map (Gather.owedFor p)).sum
  pool : (freeEntries t.free ++ new.toList.flatMap Gather.entries).Perm
    (freeEntries s.free ++ (s.gather? k).toList.flatMap Gather.entries)
  emissions : t.EmissionsLawful
  entries : ∀ e ∈ s.emq, e.slot ≠ k → e ∈ t.emq
  slot : ∀ g, new = some g → k < 8192
  lawful : ∀ g, new = some g → g.lawful = true
  portOn : ∀ g, new = some g → (s.port g.port).enabled = true
  key : ∀ g, new = some g → ∀ j h, j ≠ k → s.gather? j = some h → ¬(h.port = g.port ∧ h.tag = g.tag)
  queued : ∀ g, new = some g → g.stage = .active → ∀ m ∈ g.roster, 0 < m.drawQueued →
    ∃ e ∈ t.emq, e.slot = k ∧ e.entry = m.entry ∧ t.validMember e = some (g, m)

/-- An accounted change of one record keeps the laws of the records. -/
theorem State.Work.rewrite {s t : State} {k : Nat} {new : Option Gather} (h : s.Work)
    (hs : Table.wf Slot.reset s.slots) (r : State.Rewrites k new s t) : t.Work := by
  have hother : ∀ {j g}, j ≠ k → t.gather? j = some g → s.gather? j = some g := fun {j g} hj hg => by
    rwa [State.gather?_congr (r.others j hj)] at hg
  have hself : ∀ {g}, t.gather? k = some g → new = some g := fun hg => r.record.symm.trans hg
  have hbut := State.recordsBut_congr hs r.slots r.others
  exact {
    slot := fun j g hg => by
      by_cases hj : j = k
      · subst hj; exact r.slot g (hself hg)
      · exact h.slot j g (hother hj hg)
    lawful := fun j g hg => by
      by_cases hj : j = k
      · subst hj; exact r.lawful g (hself hg)
      · exact h.lawful j g (hother hj hg)
    enabled := fun j g hg => by
      by_cases hj : j = k
      · subst hj; exact r.enabled _ (r.portOn g (hself hg))
      · exact r.enabled _ (h.enabled j g (hother hj hg))
    keys := fun i j g g' hg hg' hport htag => by
      by_cases hi : i = k <;> by_cases hj : j = k
      · rw [hi, hj]
      · subst hi
        exact absurd ⟨hport.symm, htag.symm⟩ (r.key g (hself hg) j g' hj (hother hj hg'))
      · subst hj
        exact absurd ⟨hport, htag⟩ (r.key g' (hself hg') i g hi (hother hi hg))
      · exact h.keys i j g g' (hother hi hg) (hother hj hg') hport htag
    queues := fun p hp c => by
      refine ⟨r.nodup p hp c, fun j => ?_⟩
      by_cases hj : j = k
      · subst hj; rw [r.record]; exact r.queueSelf p hp c
      · rw [r.queueOthers p hp c j hj, State.gather?_congr (r.others j hj)]
        exact (h.queues p hp c).2 j
    draws := fun p hp => by
      have hold := h.draws p hp
      have hnew := r.draws p hp
      rw [State.owedAt_split hs k p] at hold
      rw [State.owedAt_split r.slots k p, r.record, hbut]
      omega
    pool := by
      have hold := h.pool
      have hrest := ((State.heldEntries_perm hs k).append_left (freeEntries s.free)).symm.trans hold
      refine ((State.heldEntries_perm r.slots k).append_left _).trans ?_
      rw [r.record, hbut, ← List.append_assoc]
      rw [← List.append_assoc] at hrest
      exact (r.pool.append_right _).trans hrest
    emissions := r.emissions
    queued := fun j g hg ha m hm hq => by
      by_cases hj : j = k
      · subst hj; exact r.queued g (hself hg) ha m hm hq
      · obtain ⟨e, he, hslot, hentry, hv⟩ := h.queued j g (hother hj hg) ha m hm hq
        have hne : e.slot ≠ k := hslot ▸ hj
        exact ⟨e, r.entries e he hne, hslot, hentry, by rw [State.validMember_congr (r.others _ hne)]; exact hv⟩ }

end Sys2Proof.Machine

/-! The laws of one record and what keeps them: the change of one member, the re-evaluation, the handling of an arrival,
departures, reclaims and issues, the exit from ACTIVE, and an added member. -/

namespace Sys2Proof.Machine

/-! ## The ranges and the balances of a member -/

theorem Member.inRange_iff (a : Nat) (m : Member) : m.inRange a = true ↔
    m.entry < 65536 ∧ m.openLeft ≤ a ∧ m.drawQueued ≤ 255 ∧ m.drawOut ≤ 509 ∧ m.passed ≤ 16777215 ∧ m.trims ≤ 255 ∧
      m.lapses ≤ 7 ∧ (m.drawQueued = 0 ∨ m.drawOut ≤ 254) ∧ ∀ e, m.expected = some e → 0 < e ∧ e ≤ 65535 := by
  cases h : m.expected <;> simp [Member.inRange, h, and_assoc]

/-- The phase of a member and its balances (R73), as `Member.phaseAgrees` tests them. -/
theorem Member.phaseAgrees_iff (m : Member) : m.phaseAgrees = true ↔
    (m.phase = .opening → 0 < m.openLeft) ∧ (m.phase ≠ .opening → m.openLeft = 0) ∧
    (m.phase = .drawn → 0 < m.drawQueued + m.drawOut) ∧ (m.phase ≠ .drawn → m.drawQueued = 0) ∧
    (m.phase = .waiting → m.drawOut ≤ 254) ∧ (m.phase ≠ .drawn → m.phase ≠ .waiting → m.drawOut = 0) ∧
    (m.drawDeadline.isSome = true ↔ 0 < m.drawOut ∧ m.drawQueued = 0) ∧
    (m.phase = .finished ∨ m.phase = .lapsed ∨ m.lapses ≤ 6) := by
  unfold Member.phaseAgrees
  rw [Bool.and_eq_true, Bool.and_eq_true, decide_eq_true_eq]
  cases h : m.phase <;> simp [and_assoc]

/-! ## The laws of an ACTIVE record -/

/-- The laws of an ACTIVE record (R42, R69, R72, R73, R92, R94). -/
structure Gather.LawfulActive (g : Gather) : Prop where
  port : g.port < 48
  clsPos : 1 ≤ g.cls
  cls : g.cls ≤ 7
  allowance : g.allowance ≤ 255
  announced : g.announced ≤ 4095
  length : g.roster.length ≤ 256
  entries : g.entries.Nodup
  tokens : (g.roster.map Member.token).Nodup
  range : ∀ m ∈ g.roster, m.inRange g.allowance = true
  ringNodup : g.ring.Nodup
  ring : ∀ e, e ∈ g.ring ↔ ∃ m ∈ g.roster, m.entry = e ∧ m.phase = .waiting
  phases : ∀ m ∈ g.roster, m.phaseAgrees = true
  linger : g.lingerAt = none

theorem Gather.ringAgrees_iff (g : Gather) : g.ringAgrees = true ↔
    g.ring.Nodup ∧ ∀ e, e ∈ g.ring ↔ ∃ m ∈ g.roster, m.entry = e ∧ m.phase = .waiting := by
  simp only [Gather.ringAgrees, Bool.and_eq_true, decide_eq_true_eq, List.all_eq_true, List.any_eq_true,
    Bool.or_eq_true, and_assoc]
  refine and_congr_right fun _ => ⟨fun ⟨hin, hall⟩ e => ⟨hin e, ?_⟩, fun h => ⟨fun e => (h e).1, fun m hm => ?_⟩⟩
  · rintro ⟨m, hm, rfl, hw⟩
    exact (hall m hm).resolve_left fun hne => hne hw
  · by_cases hw : m.phase = .waiting
    · exact .inr ((h m.entry).2 ⟨m, hm, rfl, hw⟩)
    · exact .inl hw

theorem Gather.lawful_iff {g : Gather} (ha : g.stage = .active) : g.lawful = true ↔ g.LawfulActive := by
  simp only [Gather.lawful, ha, Bool.and_eq_true, decide_eq_true_eq, List.all_eq_true, Gather.ringAgrees_iff]
  constructor
  · rintro ⟨⟨⟨⟨⟨⟨⟨⟨⟨hport, hpos⟩, hcls⟩, hallow⟩, hann⟩, hlen⟩, hent⟩, htok⟩, hrange⟩, ⟨⟨hnodup, hring⟩, hphase⟩, hlinger⟩
    exact ⟨hport, hpos, hcls, hallow, hann, hlen, hent, htok, hrange, hnodup, hring, hphase, hlinger⟩
  · intro h
    exact ⟨⟨⟨⟨⟨⟨⟨⟨⟨h.port, h.clsPos⟩, h.cls⟩, h.allowance⟩, h.announced⟩, h.length⟩, h.entries⟩, h.tokens⟩, h.range⟩,
      ⟨⟨h.ringNodup, h.ring⟩, h.phases⟩, h.linger⟩

/-- The record that lingers after its exit from ACTIVE is lawful (R45, R46). -/
theorem Gather.left_lawful {g : Gather} (h : g.LawfulActive) (o : Ending) (d : Time) :
    { g.left with stage := .linger o, lingerAt := some d }.lawful = true := by
  have hent : (g.left.roster.map Member.entry) = g.entries := by
    simp only [Gather.left, Gather.entries, List.map_map]; rfl
  have htok : (g.left.roster.map Member.token) = g.roster.map Member.token := by
    simp only [Gather.left, List.map_map]; rfl
  have hlen : g.left.roster.length = g.roster.length := by simp [Gather.left]
  have hrange : ∀ m ∈ g.left.roster, m.inRange g.allowance = true := by
    intro m hm
    obtain ⟨x, hx, rfl⟩ := List.mem_map.1 hm
    obtain ⟨hentry, hopen, -, -, hpassed, htrims, hlapses, -, hexpected⟩ :=
      (Member.inRange_iff _ _).1 (h.range x hx)
    exact (Member.inRange_iff _ _).2 ⟨hentry, hopen, Nat.zero_le _, Nat.zero_le _, hpassed, htrims, hlapses, .inl rfl,
      hexpected⟩
  have hleft : ∀ m ∈ g.left.roster, m.hasLeft = true := by
    intro m hm
    obtain ⟨m, -, rfl⟩ := List.mem_map.1 hm
    cases hp : m.phase <;> simp [Member.hasLeft, Member.left, hp]
  simp only [Gather.lawful, Bool.and_eq_true, decide_eq_true_eq, List.all_eq_true, hent, htok, hlen]
  exact ⟨⟨⟨⟨⟨⟨⟨⟨⟨h.port, h.clsPos⟩, h.cls⟩, h.allowance⟩, h.announced⟩, h.length⟩, h.entries⟩, h.tokens⟩, hrange⟩,
    ⟨⟨⟨rfl, hleft⟩, rfl⟩, rfl⟩, rfl⟩

/-! ## Members of a roster without a repeated entry -/

theorem Gather.member?_of_mem {g : Gather} (hn : g.entries.Nodup) {m : Member} (hm : m ∈ g.roster) :
    g.member? m.entry = some m := by
  obtain ⟨before, behind, hr⟩ := List.append_of_mem hm
  rw [Gather.entries, hr] at hn
  rw [Gather.member?, hr]
  exact find_entry before behind m hn

theorem Gather.mem_of_member? {g : Gather} {e : Nat} {m : Member} (h : g.member? e = some m) :
    m ∈ g.roster ∧ m.entry = e :=
  ⟨List.mem_of_find?_eq_some h, by simpa using List.find?_some h⟩

theorem Gather.mem_of_byToken {g : Gather} {t : Token} {m : Member} (h : g.byToken t = some m) :
    m ∈ g.roster ∧ m.token = t :=
  ⟨List.mem_of_find?_eq_some h, by simpa using List.find?_some h⟩

/-- The roster with one member replaced, in its place. -/
theorem Gather.setMember_split {g : Gather} (hn : g.entries.Nodup) {m m' : Member} (hm : m ∈ g.roster)
    (he : m'.entry = m.entry) :
    ∃ before behind, g.roster = before ++ m :: behind ∧ (g.setMember m').roster = before ++ m' :: behind := by
  obtain ⟨before, behind, hr⟩ := List.append_of_mem hm
  refine ⟨before, behind, hr, ?_⟩
  rw [Gather.entries, hr] at hn
  rw [Gather.setMember, hr]
  exact replace_entry before behind m m' he hn

theorem Gather.setMember_setMember (g : Gather) {m m' : Member} (he : m'.entry = m.entry) :
    (g.setMember m).setMember m' = g.setMember m' := by
  simp only [Gather.setMember, List.map_map]
  congr 1
  refine List.map_congr_left fun x _ => ?_
  simp only [Function.comp]
  split <;> simp_all

theorem Gather.setMember_self {g : Gather} (hn : g.entries.Nodup) {m : Member} (hm : m ∈ g.roster) :
    g.setMember m = g := by
  obtain ⟨before, behind, hr, hr'⟩ := Gather.setMember_split hn hm (m' := m) rfl
  rw [← hr] at hr'
  show { g with roster := _ } = g
  exact congrArg (fun r => { g with roster := r }) hr'

theorem Gather.member?_setMember {g : Gather} (hn : g.entries.Nodup) {m m' : Member} (hm : m ∈ g.roster)
    (he : m'.entry = m.entry) : (g.setMember m').member? m.entry = some m' := by
  obtain ⟨before, behind, -, hr'⟩ := Gather.setMember_split hn hm he
  have hn' : (g.setMember m').entries.Nodup := by rw [Gather.entries, Gather.setMember_entries]; exact hn
  rw [← he]
  exact Gather.member?_of_mem hn' (by rw [hr']; simp)

/-! ## The change of one member -/

/-- `g'` is the ACTIVE record `g` with its member `m` changed to `m'`, which obeys the laws of a member, and with the wait
ring changed to agree with its phase; the idle deadline may have been re-armed. -/
structure Gather.Alters (g : Gather) (m m' : Member) (g' : Gather) : Prop where
  mem : m ∈ g.roster
  entry : m'.entry = m.entry
  token : m'.token = m.token
  roster : g'.roster = (g.setMember m').roster
  frame : g' = { g with roster := g'.roster, ring := g'.ring, idle := g'.idle }
  range : m'.inRange g.allowance = true
  phase : m'.phaseAgrees = true
  ringNodup : g'.ring.Nodup
  ring : ∀ x, x ∈ g'.ring ↔ if x = m.entry then m'.phase = .waiting else x ∈ g.ring

section
variable {g g' : Gather} {m m' : Member}

theorem Gather.Alters.same (h : g.Alters m m' g') : g'.port = g.port ∧ g'.tag = g.tag ∧ g'.allowance = g.allowance ∧
    g'.stage = g.stage ∧ g'.cls = g.cls ∧ g'.suspended = g.suspended := by
  rw [h.frame]; exact ⟨rfl, rfl, rfl, rfl, rfl, rfl⟩

theorem Gather.Alters.entries (h : g.Alters m m' g') : g'.entries = g.entries := by
  rw [Gather.entries, h.roster, Gather.setMember_entries]; rfl

/-- A member after the change is the changed one or another one as it was. -/
theorem Gather.Alters.mem_roster (h : g.Alters m m' g') (hn : g.entries.Nodup) (x : Member) :
    x ∈ g'.roster ↔ x = m' ∨ x ∈ g.roster ∧ x.entry ≠ m.entry := by
  obtain ⟨before, behind, hr, hr'⟩ := Gather.setMember_split hn h.mem h.entry
  rw [Gather.entries, hr, List.map_append, List.map_cons, List.nodup_append] at hn
  obtain ⟨-, hbehind, hdisj⟩ := hn
  have h1 : ∀ y ∈ before, y.entry ≠ m.entry := fun y hy =>
    hdisj y.entry (List.mem_map_of_mem hy) m.entry List.mem_cons_self
  have h2 : ∀ y ∈ behind, y.entry ≠ m.entry := fun y hy hye =>
    (List.nodup_cons.1 hbehind).1 (hye ▸ List.mem_map_of_mem hy)
  rw [h.roster, hr', hr]
  simp only [List.mem_append, List.mem_cons]
  constructor
  · rintro (hx | rfl | hx)
    · exact .inr ⟨.inl hx, h1 x hx⟩
    · exact .inl rfl
    · exact .inr ⟨.inr (.inr hx), h2 x hx⟩
  · rintro (rfl | ⟨hx | rfl | hx, hne⟩)
    · exact .inr (.inl rfl)
    · exact .inl hx
    · exact absurd rfl hne
    · exact .inr (.inr hx)

/-- A change of one member keeps the laws of the record. -/
theorem Gather.Alters.lawful (h : g.Alters m m' g') (hl : g.LawfulActive) : g'.LawfulActive := by
  obtain ⟨before, behind, hr, hr'⟩ := Gather.setMember_split hl.entries h.mem h.entry
  have hmem := h.mem_roster hl.entries
  have hframe := h.frame
  exact {
    port := by rw [hframe]; exact hl.port
    clsPos := by rw [hframe]; exact hl.clsPos
    cls := by rw [hframe]; exact hl.cls
    allowance := by rw [hframe]; exact hl.allowance
    announced := by rw [hframe]; exact hl.announced
    length := by
      have := hl.length
      rw [hr] at this
      rw [h.roster, hr']
      simpa using this
    entries := h.entries ▸ hl.entries
    tokens := by
      have := hl.tokens
      rw [hr] at this
      rw [h.roster, hr']
      simpa [h.token] using this
    range := fun x hx => by
      rw [h.same.2.2.1]
      rcases (hmem x).1 hx with rfl | ⟨hx, -⟩
      · exact h.range
      · exact hl.range x hx
    ringNodup := h.ringNodup
    ring := fun e => by
      rw [h.ring]
      constructor
      · intro he
        split at he
        · rename_i hem
          exact ⟨m', (hmem m').2 (.inl rfl), by rw [h.entry, hem], he⟩
        · rename_i hem
          obtain ⟨x, hx, rfl, hw⟩ := (hl.ring e).1 he
          exact ⟨x, (hmem x).2 (.inr ⟨hx, hem⟩), rfl, hw⟩
      · rintro ⟨x, hx, rfl, hw⟩
        rcases (hmem x).1 hx with rfl | ⟨hx, hne⟩
        · rw [if_pos h.entry]; exact hw
        · rw [if_neg hne]; exact (hl.ring _).2 ⟨x, hx, rfl, hw⟩
    phases := fun x hx => by
      rcases (hmem x).1 hx with rfl | ⟨hx, -⟩
      · exact h.phase
      · exact hl.phases x hx
    linger := by rw [hframe]; exact hl.linger }

/-- The draws that a record owes change with the changed member's. -/
theorem Gather.Alters.owed (h : g.Alters m m' g') (hn : g.entries.Nodup) :
    g'.owed + (m.drawQueued + m.drawOut) = g.owed + (m'.drawQueued + m'.drawOut) := by
  obtain ⟨before, behind, hr, hr'⟩ := Gather.setMember_split hn h.mem h.entry
  rw [Gather.owed, Gather.owed, h.roster, hr', hr]
  simp only [List.map_append, List.map_cons, List.sum_append, List.sum_cons]
  omega

/-- The re-arming of the idle deadline goes with a change of a member. -/
theorem Gather.Alters.rearmIdle (h : g.Alters m m' g') (pf : Profile) (now : Time) :
    g.Alters m m' (g'.rearmIdle pf now) :=
  { h with
    frame := by rw [Gather.rearmIdle, h.frame] }

/-! ## Members off the wait ring -/

/-- A member finished or lapsed is taken off the wait ring (R81, R94). -/
theorem Gather.alters_off (hl : g.LawfulActive) (hm : m ∈ g.roster) (he : m'.entry = m.entry)
    (ht : m'.token = m.token) (hr : m'.inRange g.allowance = true) (hp : m'.phaseAgrees = true)
    (hw : m'.phase ≠ .waiting) :
    g.Alters m m' { g.setMember m' with ring := g.ring.filter (· ≠ m'.entry) } where
  mem := hm
  entry := he
  token := ht
  roster := rfl
  frame := rfl
  range := hr
  phase := hp
  ringNodup := hl.ringNodup.filter _
  ring := fun x => by
    simp only [List.mem_filter, he, decide_eq_true_eq, ne_eq]
    split <;> simp_all

/-- A member that leaves its record's roster and ring as they were. -/
theorem Gather.alters_self (hl : g.LawfulActive) (hm : m ∈ g.roster) : g.Alters m m g where
  mem := hm
  entry := rfl
  token := rfl
  roster := by rw [Gather.setMember_self hl.entries hm]
  frame := rfl
  range := hl.range m hm
  phase := hl.phases m hm
  ringNodup := hl.ringNodup
  ring := fun x => by
    split
    · rename_i hx
      rw [hx, hl.ring]
      constructor
      · rintro ⟨y, hy, hye, hw⟩
        have h1 := Gather.member?_of_mem hl.entries hy
        rw [hye, Gather.member?_of_mem hl.entries hm] at h1
        rwa [Option.some.inj h1]
      · exact fun hw => ⟨m, hm, rfl, hw⟩
    · exact Iff.rfl

/-- A member is on the ring exactly while it is WAITING. -/
theorem Gather.LawfulActive.mem_ring (hl : g.LawfulActive) (hm : m ∈ g.roster) :
    m.entry ∈ g.ring ↔ m.phase = .waiting := by
  simpa using (Gather.alters_self hl hm).ring m.entry

/-! ## Re-evaluation -/

theorem Profile.refillMark_le (pf : Profile) : pf.refillMark ≤ 254 := by
  have h1 := pf.refill.isLt
  have h2 := pf.quantum.isLt
  unfold Profile.refillMark
  split <;> omega

theorem Member.wantsMore_iff (pf : Profile) (m : Member) : m.wantsMore pf = true ↔
    m.phase ≠ .finished ∧ m.phase ≠ .lapsed ∧ m.openLeft = 0 ∧ m.drawQueued = 0 ∧ m.drawOut ≤ pf.refillMark ∧
      ∀ e, m.expected = some e → m.passed + m.drawOut < e ∨ m.drawOut = 0 := by
  cases h : m.expected <;> simp [Member.wantsMore, h, and_assoc]

/-- What a member changed to before its re-evaluation obeys: the laws of a member, but for the phase that the
re-evaluation is to choose (R87). `onRing` says whether the member is on the wait ring. -/
structure Member.Pending (a : Nat) (onRing : Prop) (m : Member) : Prop where
  range : m.inRange a = true
  live : m.phase ≠ .finished ∧ m.phase ≠ .lapsed
  deadline : m.drawDeadline.isSome = true ↔ 0 < m.drawOut ∧ m.drawQueued = 0
  lapses : m.lapses ≤ 6
  waits : m.phase = .waiting ↔ onRing
  waiting : onRing → m.openLeft = 0 ∧ m.drawQueued = 0 ∧ m.drawOut ≤ 254
  opening : 0 < m.openLeft → m.drawQueued = 0 ∧ m.drawOut = 0

/-- A member changed and re-evaluated obeys its laws, with the phase that its balances call for (R73, R87). -/
theorem Gather.reevaluate_alters (pf : Profile) (hl : g.LawfulActive) (ha : g.stage = .active) (hm : m ∈ g.roster)
    (he : m'.entry = m.entry) (ht : m'.token = m.token) (hp : m'.Pending g.allowance (m.phase = .waiting)) :
    ∃ ph, g.Alters m { m' with phase := ph } ((g.setMember m').reevaluate pf m.entry) := by
  have hfind := Gather.member?_setMember hl.entries hm he
  have hring := hl.mem_ring hm
  have hrange := fun ph => (Member.inRange_iff g.allowance { m' with phase := ph }).2
    ((Member.inRange_iff g.allowance m').1 hp.range)
  by_cases hw : m.phase = .waiting
  · have hsame : (g.setMember m').reevaluate pf m.entry = g.setMember m' :=
      Gather.reevaluate_none pf _ _ _ hfind (.inr (.inr (hring.2 hw)))
    have hwait := hp.waiting hw
    refine ⟨.waiting, ?_⟩
    rw [hsame, show ({ m' with phase := .waiting } : Member) = m' by rw [← hp.waits.2 hw]]
    refine ⟨hm, he, ht, rfl, rfl, hp.range, ?_, hl.ringNodup, fun x => ?_⟩
    · rw [Member.phaseAgrees_iff]
      simp [hp.waits.2 hw, hwait, hp.deadline, hp.lapses]
    · rw [Gather.setMember_ring]
      split
      · rename_i hx; rw [hx, hring, hp.waits]
      · exact Iff.rfl
  · have hoff : (g.setMember m').reevaluate pf m.entry = _ :=
      Gather.reevaluate_off pf _ _ _ hfind ha hp.live.1 hp.live.2 (mt hring.1 hw)
    by_cases hmore : m'.wantsMore pf = true
    · obtain ⟨-, -, hopen, hqueued, hout, -⟩ := (Member.wantsMore_iff pf m').1 hmore
      have hmark := pf.refillMark_le
      rw [if_pos hmore, Gather.setMember_setMember g (m := m') (m' := { m' with phase := .waiting }) rfl] at hoff
      refine ⟨.waiting, ?_⟩
      rw [hoff]
      refine ⟨hm, he, ht, rfl, rfl, hrange _, ?_, ?_, fun x => ?_⟩
      · rw [Member.phaseAgrees_iff]
        simp only [hopen, hqueued, hp.deadline, hp.lapses]
        simp
        omega
      · exact List.nodup_append.2 ⟨hl.ringNodup, List.nodup_singleton _, fun x hx y hy hxy =>
          mt hring.1 hw (by rw [List.mem_singleton.1 hy] at hxy; exact hxy ▸ hx)⟩
      · simp only [List.mem_append, List.mem_singleton, Gather.setMember_ring]
        split <;> simp_all
    · rw [if_neg hmore,
        Gather.setMember_setMember g (m := m') (m' := { m' with phase := if 0 < m'.openLeft then .opening else .drawn }) rfl] at hoff
      refine ⟨if 0 < m'.openLeft then .opening else .drawn, ?_⟩
      rw [hoff]
      refine ⟨hm, he, ht, rfl, rfl, hrange _, ?_, hl.ringNodup, fun x => ?_⟩
      · have hdraws : m'.openLeft = 0 → 0 < m'.drawQueued + m'.drawOut := fun hopen => by
          by_contra hnone
          have hzero : m'.drawQueued = 0 ∧ m'.drawOut = 0 := by omega
          exact hmore ((Member.wantsMore_iff pf m').2 ⟨hp.live.1, hp.live.2, hopen, hzero.1,
            by rw [hzero.2]; exact Nat.zero_le _, fun _ _ => .inr hzero.2⟩)
        rw [Member.phaseAgrees_iff]
        by_cases hopen : 0 < m'.openLeft
        · simp [hopen, hp.opening hopen, hp.deadline, hp.lapses]
        · have hzero : m'.openLeft = 0 := Nat.eq_zero_of_not_pos hopen
          simp [hzero, hdraws hzero, hp.deadline, hp.lapses]
      · rw [Gather.setMember_ring]
        split
        · rename_i hx
          rw [hx, hring]
          split <;> simp [hw]
        · exact Iff.rfl

end

end Sys2Proof.Machine

/-! What the events of a member do to its record: each is a change of that member that keeps the record's laws, with the
cells that it returns (R78 to R84, R90 to R94). -/

namespace Sys2Proof.Machine

section
variable {g : Gather} {m : Member}

/-! ## Arrivals -/

theorem trimsUp_le (n : Nat) : trimsUp n ≤ 255 := Nat.min_le_right _ _

/-- What an arrival's charge leaves of a member's balances: the cells charged come from open-left first, then from
draw-out (R78). -/
theorem Member.charge_balance (pf : Profile) (now : Time) (c : Nat) (m : Member) (hc : c ≤ m.openLeft + m.drawOut) :
    m.fromDraws c + (m.charge pf now c).drawOut = m.drawOut ∧
      (m.charge pf now c).openLeft = m.openLeft - min c m.openLeft ∧ m.fromDraws c = c - m.openLeft := by
  have hx2 : m.fromDraws c = c - m.openLeft := by unfold Member.fromDraws; omega
  refine ⟨?_, rfl, hx2⟩
  show m.fromDraws c + (m.drawOut - m.fromDraws c) = m.drawOut
  omega

/-- The draw deadline after a charge stands exactly where draw-out is left and no draw is queued (R78, R92). -/
theorem Member.charge_deadline (pf : Profile) (now : Time) (c : Nat) (m : Member)
    (h : m.drawDeadline.isSome = true ↔ 0 < m.drawOut ∧ m.drawQueued = 0) :
    (m.charge pf now c).drawDeadline.isSome = true ↔ 0 < (m.charge pf now c).drawOut ∧ m.drawQueued = 0 := by
  simp only [Member.charge]
  by_cases hout : m.drawOut - m.fromDraws c = 0
  · simp [hout]
  · have hpos : 0 < m.drawOut := by omega
    by_cases hnew : 0 < m.fromDraws c ∧ m.drawQueued = 0
    · simp [hout, hnew, Nat.pos_of_ne_zero hout]
    · simp [hout, hnew, Nat.pos_of_ne_zero hout, h, hpos]

/-- A member charged within its allowance waits for its re-evaluation (R78). -/
theorem Member.charge_pending (pf : Profile) (now : Time) {a c : Nat} (hr : m.inRange a = true)
    (hp : m.phaseAgrees = true) (hf : m.phase ≠ .finished) (hl : m.phase ≠ .lapsed) (hc : c ≤ m.openLeft + m.drawOut) :
    (m.charge pf now c).Pending a (m.phase = .waiting) := by
  obtain ⟨hentry, hopen, hqueued, hout, hpassed, htrims, hlapses, hboth, hexpected⟩ := (Member.inRange_iff _ _).1 hr
  obtain ⟨hopening, hnot, -, hnodraw, hwait, hnoout, hdead, hlap⟩ := (Member.phaseAgrees_iff _).1 hp
  obtain ⟨hsum, hleft, -⟩ := Member.charge_balance pf now c m hc
  refine ⟨(Member.inRange_iff _ _).2 ⟨hentry, by omega, hqueued, by omega, Nat.min_le_right _ _, htrims, hlapses,
    by change m.drawQueued = 0 ∨ _; omega, hexpected⟩, ⟨hf, hl⟩, Member.charge_deadline pf now c m hdead,
    (hlap.resolve_left hf).resolve_left hl, Iff.rfl, fun hw => ?_, fun ho => ?_⟩
  · have := hnot (by rw [hw]; nofun)
    have := hwait hw
    exact ⟨by omega, hnodraw (by rw [hw]; nofun), by omega⟩
  · have hphase : m.phase = .opening := by
      by_contra hne
      have := hnot hne
      omega
    have := hnoout (by rw [hphase]; nofun) (by rw [hphase]; nofun)
    exact ⟨hnodraw (by rw [hphase]; nofun), by omega⟩

/-- A member trimmed over its limit waits for its re-evaluation (R80). -/
theorem Member.overLimit_pending {a : Nat} (hr : m.inRange a = true) (hp : m.phaseAgrees = true)
    (hf : m.phase ≠ .finished) (hl : m.phase ≠ .lapsed) : m.overLimit.Pending a (m.phase = .waiting) := by
  obtain ⟨hentry, -, hqueued, -, hpassed, -, hlapses, -, hexpected⟩ := (Member.inRange_iff _ _).1 hr
  obtain ⟨-, -, -, hnodraw, -, -, -, hlap⟩ := (Member.phaseAgrees_iff _).1 hp
  refine ⟨(Member.inRange_iff _ _).2 ⟨hentry, Nat.zero_le _, hqueued, Nat.zero_le _, hpassed, trimsUp_le _, hlapses,
    .inr (Nat.zero_le _), hexpected⟩, ⟨hf, hl⟩, by simp [Member.overLimit],
    (hlap.resolve_left hf).resolve_left hl, Iff.rfl, fun hw => ⟨rfl, hnodraw (by rw [hw]; nofun), Nat.zero_le _⟩,
    fun ho => absurd ho (Nat.lt_irrefl _)⟩

/-- A revived member waits for its re-evaluation (R83). -/
theorem Member.revived_pending {a : Nat} (hr : m.inRange a = true) (hp : m.phaseAgrees = true)
    (hl : m.phase = .lapsed) : m.revived.Pending a (m.phase = .waiting) := by
  obtain ⟨hentry, hopen, hqueued, hout, hpassed, -, -, hboth, hexpected⟩ := (Member.inRange_iff _ _).1 hr
  obtain ⟨-, hnot, -, -, -, -, hdead, -⟩ := (Member.phaseAgrees_iff _).1 hp
  have hzero := hnot (by rw [hl]; nofun)
  exact ⟨(Member.inRange_iff _ _).2 ⟨hentry, hopen, hqueued, hout, hpassed, trimsUp_le _, Nat.zero_le _, hboth, hexpected⟩,
    ⟨nofun, nofun⟩, hdead, Nat.zero_le _, by rw [hl]; exact ⟨nofun, nofun⟩, fun hw => absurd (hl ▸ hw) nofun,
    fun ho => absurd ho (by rw [show m.revived.openLeft = m.openLeft from rfl, hzero]; exact Nat.lt_irrefl _)⟩

/-- A finished member is off the wait ring and holds no draw (R81). -/
theorem Gather.finish_alters (hl : g.LawfulActive) (hm : m ∈ g.roster) {m' : Member} (he : m'.entry = m.entry)
    (ht : m'.token = m.token) (hr : m'.inRange g.allowance = true) :
    g.Alters m m'.finish (g.finishMember m') := by
  obtain ⟨hentry, -, -, -, hpassed, htrims, hlapses, -, hexpected⟩ := (Member.inRange_iff _ _).1 hr
  exact Gather.alters_off hl hm he ht
    ((Member.inRange_iff _ _).2 ⟨hentry, Nat.zero_le _, Nat.zero_le _, Nat.zero_le _, hpassed, htrims, hlapses, .inl rfl,
      hexpected⟩) ((Member.phaseAgrees_iff _).2 (by simp [Member.finish])) nofun

/-- What the handling of an arrival does to a lawful record: one change of its member, whose draws shrink by the cells
returned, and whose queued draw stands or is given up (R77 to R83). -/
def Handled.Sound (g : Gather) (m : Member) (h : Handled) : Prop :=
  ∃ m', g.Alters m m' h.gather ∧ h.returned + (m'.drawQueued + m'.drawOut) = m.drawQueued + m.drawOut ∧
    (m'.drawQueued = 0 ∨ m'.drawQueued = m.drawQueued)

theorem Gather.chargeOrTrim_sound (pf : Profile) (now : Time) (mode : Mode) (c : Nat) (last : Bool)
    (hl : g.LawfulActive) (ha : g.stage = .active) (hm : m ∈ g.roster) (hf : m.phase ≠ .finished)
    (hlap : m.phase ≠ .lapsed) : (g.chargeOrTrim pf now mode c last m).Sound g m := by
  have hr := hl.range m hm
  have hp := hl.phases m hm
  unfold Gather.chargeOrTrim
  split
  · rename_i hc
    have hpend := Member.charge_pending pf now hr hp hf hlap hc
    have hsum := (Member.charge_balance pf now c m hc).1
    dsimp only
    split
    · refine ⟨_, Gather.finish_alters hl hm (m' := m.charge pf now c) rfl rfl hpend.range, ?_, .inl rfl⟩
      show m.fromDraws c + (m.drawQueued + (m.charge pf now c).drawOut) + (0 + 0) = _
      omega
    · obtain ⟨ph, halt⟩ := Gather.reevaluate_alters pf hl ha hm (m' := m.charge pf now c) rfl rfl hpend
      refine ⟨_, halt, ?_, .inr rfl⟩
      show m.fromDraws c + (m.drawQueued + (m.charge pf now c).drawOut) = _
      omega
  · obtain ⟨ph, halt⟩ := Gather.reevaluate_alters pf hl ha hm (m' := m.overLimit) rfl rfl
      (Member.overLimit_pending hr hp hf hlap)
    refine ⟨_, halt, ?_, .inr rfl⟩
    show m.drawOut + (m.drawQueued + 0) = _
    omega

theorem Gather.handleFinished_sound (mode : Mode) (c : Nat) (hl : g.LawfulActive) (hm : m ∈ g.roster) :
    (g.handleFinished mode c m).Sound g m := by
  unfold Gather.handleFinished
  split
  · exact ⟨m, Gather.alters_self hl hm, Nat.zero_add _, .inr rfl⟩
  · obtain ⟨hentry, hopen, hqueued, hout, hpassed, -, hlapses, hboth, hexpected⟩ :=
      (Member.inRange_iff _ _).1 (hl.range m hm)
    refine ⟨{ m with trims := trimsUp m.trims }, ?_, Nat.zero_add _, .inr rfl⟩
    refine ⟨hm, rfl, rfl, rfl, rfl, (Member.inRange_iff _ _).2 ⟨hentry, hopen, hqueued, hout, hpassed, trimsUp_le _,
      hlapses, hboth, hexpected⟩, hl.phases m hm, hl.ringNodup, fun x => ?_⟩
    exact (Gather.alters_self hl hm).ring x

theorem Gather.handleLapsed_sound (pf : Profile) (mode : Mode) (c : Nat) (last : Bool) (hl : g.LawfulActive)
    (ha : g.stage = .active) (hm : m ∈ g.roster) (hlap : m.phase = .lapsed) :
    (g.handleLapsed pf mode c last m).Sound g m := by
  unfold Gather.handleLapsed
  split
  · split
    · exact ⟨_, Gather.finish_alters hl hm rfl rfl (hl.range m hm), rfl, .inl rfl⟩
    · exact ⟨m, Gather.alters_self hl hm, Nat.zero_add _, .inr rfl⟩
  · obtain ⟨ph, halt⟩ := Gather.reevaluate_alters pf hl ha hm (m' := m.revived) rfl rfl
      (Member.revived_pending (hl.range m hm) (hl.phases m hm) hlap)
    exact ⟨_, halt, Nat.zero_add _, .inr rfl⟩

/-- The handling of an arrival, by the phase of its member (R77). -/
theorem Gather.handle_sound (pf : Profile) (now : Time) (mode : Mode) (c : Nat) (last : Bool) (hl : g.LawfulActive)
    (ha : g.stage = .active) (hm : m ∈ g.roster) : (g.handle pf now mode c last m).Sound g m := by
  unfold Gather.handle
  split
  case h_1 h => exact Gather.chargeOrTrim_sound pf now mode c last hl ha hm (by rw [h]; nofun) (by rw [h]; nofun)
  case h_2 h => exact Gather.chargeOrTrim_sound pf now mode c last hl ha hm (by rw [h]; nofun) (by rw [h]; nofun)
  case h_3 h => exact Gather.chargeOrTrim_sound pf now mode c last hl ha hm (by rw [h]; nofun) (by rw [h]; nofun)
  case h_4 => exact Gather.handleFinished_sound mode c hl hm
  case h_5 h => exact Gather.handleLapsed_sound pf mode c last hl ha hm h

/-! ## Draws -/

/-- A member with a queued draw is DRAWN, with nothing of its opening allowance left (R73). -/
theorem Member.drawn_of_queued (hp : m.phaseAgrees = true) (hq : 0 < m.drawQueued) :
    m.phase = .drawn ∧ m.openLeft = 0 ∧ m.lapses ≤ 6 := by
  obtain ⟨-, hnot, -, hnodraw, -, -, -, hlap⟩ := (Member.phaseAgrees_iff _).1 hp
  have hd : m.phase = .drawn := by
    by_contra hne
    have := hnodraw hne
    omega
  refine ⟨hd, hnot (by rw [hd]; nofun), ?_⟩
  rw [hd] at hlap
  simpa using hlap

/-- A departure: the cells queued are out, under a fresh deadline (R91). -/
theorem Gather.departed_alters (pf : Profile) (now : Time) (hl : g.LawfulActive) (ha : g.stage = .active)
    (hm : m ∈ g.roster) (hq : 0 < m.drawQueued) : ∃ ph, g.Alters m { m.departed pf now with phase := ph }
      ((g.setMember (m.departed pf now)).reevaluate pf m.entry) := by
  obtain ⟨hentry, hopen, hqueued, hout, hpassed, htrims, hlapses, hboth, hexpected⟩ :=
    (Member.inRange_iff _ _).1 (hl.range m hm)
  obtain ⟨hd, hzero, hlap⟩ := Member.drawn_of_queued (hl.phases m hm) hq
  refine Gather.reevaluate_alters pf hl ha hm rfl rfl ⟨(Member.inRange_iff _ _).2 ⟨hentry, hopen, Nat.zero_le _, ?_,
    hpassed, htrims, hlapses, .inl rfl, hexpected⟩, ?_, ?_, hlap, Iff.rfl, fun hw => ?_, fun ho => ?_⟩
  · show m.drawOut + m.drawQueued ≤ 509
    omega
  · show m.phase ≠ _ ∧ m.phase ≠ _
    rw [hd]; exact ⟨nofun, nofun⟩
  · simp only [Member.departed, Option.isSome_some, true_iff, and_true]; omega
  · rw [hd] at hw; cases hw
  · exact absurd ho (by show ¬0 < m.openLeft; omega)

/-- A queued draw that a link reset takes back (R28). -/
theorem Gather.unqueued_alters (pf : Profile) (now : Time) (hl : g.LawfulActive) (ha : g.stage = .active)
    (hm : m ∈ g.roster) (hq : 0 < m.drawQueued) : ∃ ph, g.Alters m { m.unqueued pf now with phase := ph }
      ((g.setMember (m.unqueued pf now)).reevaluate pf m.entry) := by
  obtain ⟨hentry, hopen, hqueued, hout, hpassed, htrims, hlapses, hboth, hexpected⟩ :=
    (Member.inRange_iff _ _).1 (hl.range m hm)
  obtain ⟨-, -, -, -, -, -, hdead, -⟩ := (Member.phaseAgrees_iff _).1 (hl.phases m hm)
  obtain ⟨hd, hzero, hlap⟩ := Member.drawn_of_queued (hl.phases m hm) hq
  refine Gather.reevaluate_alters pf hl ha hm rfl rfl ⟨(Member.inRange_iff _ _).2 ⟨hentry, hopen, Nat.zero_le _, hout,
    hpassed, htrims, hlapses, .inl rfl, hexpected⟩, ?_, ?_, hlap, Iff.rfl, fun hw => ?_, fun ho => ?_⟩
  · show m.phase ≠ _ ∧ m.phase ≠ _
    rw [hd]; exact ⟨nofun, nofun⟩
  · simp only [Member.unqueued]
    split
    · rename_i hpos; simp [hpos]
    · rename_i hpos; simp [hdead, hpos]
  · rw [hd] at hw; cases hw
  · exact absurd ho (by show ¬0 < m.openLeft; omega)

/-- What holds of a member whose draw deadline stands (R92). -/
theorem Member.out_of_deadline (hp : m.phaseAgrees = true) (hd : m.drawDeadline.isSome = true) :
    m.drawQueued = 0 ∧ m.openLeft = 0 ∧ m.phase ≠ .finished ∧ m.phase ≠ .lapsed ∧ m.lapses ≤ 6 := by
  obtain ⟨-, hnot, -, -, -, hnoout, hdead, hlap⟩ := (Member.phaseAgrees_iff _).1 hp
  obtain ⟨hout, hqueued⟩ := hdead.1 hd
  have hphase : m.phase = .drawn ∨ m.phase = .waiting := by
    by_contra hne
    push Not at hne
    have := hnoout hne.1 hne.2
    omega
  rcases hphase with hph | hph <;> rw [hph] at hnot hlap ⊢ <;> simp_all

/-- A reclaim below the lapse limit (R93). -/
theorem Gather.reclaimed_alters (pf : Profile) (hl : g.LawfulActive) (ha : g.stage = .active) (hm : m ∈ g.roster)
    (hd : m.drawDeadline.isSome = true) (hlapses : m.lapses + 1 < pf.lapses) :
    ∃ ph, g.Alters m { m.reclaimed with phase := ph } ((g.setMember m.reclaimed).reevaluate pf m.entry) := by
  obtain ⟨hentry, hopen, -, -, hpassed, htrims, -, -, hexpected⟩ := (Member.inRange_iff _ _).1 (hl.range m hm)
  obtain ⟨hqueued, hzero, hf, hlap, -⟩ := Member.out_of_deadline (hl.phases m hm) hd
  have hlimit : m.lapses + 1 ≤ 6 := by
    have := pf.lapseLimit.isLt
    unfold Profile.lapses at hlapses
    omega
  refine Gather.reevaluate_alters pf hl ha hm rfl rfl ⟨(Member.inRange_iff _ _).2 ⟨hentry, hopen, ?_, Nat.zero_le _,
    hpassed, htrims, ?_, .inl hqueued, hexpected⟩, ⟨hf, hlap⟩, by simp [Member.reclaimed], hlimit, Iff.rfl,
    fun _ => ⟨hzero, hqueued, Nat.zero_le _⟩, fun ho => ?_⟩
  · show m.drawQueued ≤ 255
    omega
  · show m.lapses + 1 ≤ 7
    omega
  · exact absurd ho (by show ¬0 < m.openLeft; omega)

/-- A reclaim at the lapse limit: the member lapses (R94). -/
theorem Gather.lapsed_alters (hl : g.LawfulActive) (hm : m ∈ g.roster) (hd : m.drawDeadline.isSome = true) :
    g.Alters m { m.reclaimed with phase := .lapsed, openLeft := 0, drawQueued := 0, drawOut := 0, drawDeadline := none }
      (g.lapseMember m.reclaimed) := by
  obtain ⟨hentry, -, -, -, hpassed, htrims, -, -, hexpected⟩ := (Member.inRange_iff _ _).1 (hl.range m hm)
  obtain ⟨-, -, -, -, hlap⟩ := Member.out_of_deadline (hl.phases m hm) hd
  refine Gather.alters_off hl hm rfl rfl ((Member.inRange_iff _ _).2 ⟨hentry, Nat.zero_le _, Nat.zero_le _,
    Nat.zero_le _, hpassed, htrims, ?_, .inl rfl, hexpected⟩) ((Member.phaseAgrees_iff _).2 (by simp)) nofun
  show m.lapses + 1 ≤ 7
  omega

theorem Member.need_pos (pf : Profile) (hq : pf.quantum ≠ 0#8) (m : Member) : 0 < m.need pf := by
  have hpos : 0 < pf.quantum.toNat := Nat.pos_of_ne_zero fun h => hq (BitVec.eq_of_toNat_eq h)
  unfold Member.need
  split
  · exact hpos
  · split <;> omega

/-- A draw has 1 to 255 cells (R89, R151). -/
theorem Member.drawSize_range (pf : Profile) (hq : pf.quantum ≠ 0#8) (m : Member) :
    1 ≤ m.drawSize pf ∧ m.drawSize pf ≤ 255 := by
  have hpos : 0 < pf.quantum.toNat := Nat.pos_of_ne_zero fun h => hq (BitVec.eq_of_toNat_eq h)
  have hneed := Member.need_pos pf hq m
  have := pf.quantum.isLt
  unfold Member.drawSize
  omega

/-- An issue to the member at the head of the wait ring (R90). -/
theorem Gather.issue_alters {d : Nat} (hl : g.LawfulActive) (hm : m ∈ g.roster) (hhead : g.ring.head? = some m.entry)
    (hd : 1 ≤ d ∧ d ≤ 255) : g.Alters m (m.issued d) (g.issue d m) := by
  obtain ⟨hentry, hopen, -, -, hpassed, htrims, hlapses, -, hexpected⟩ := (Member.inRange_iff _ _).1 (hl.range m hm)
  obtain ⟨rest, hring⟩ : ∃ rest, g.ring = m.entry :: rest := List.head?_eq_some_iff.1 hhead
  have hw : m.phase = .waiting := (hl.mem_ring hm).1 (by rw [hring]; exact List.mem_cons_self)
  obtain ⟨-, hnot, -, -, hout, -, -, hlap⟩ := (Member.phaseAgrees_iff _).1 (hl.phases m hm)
  have hzero := hnot (by rw [hw]; nofun)
  have hle := hout hw
  rw [hw] at hlap
  have hnodup := hl.ringNodup
  rw [hring] at hnodup
  refine ⟨hm, rfl, rfl, rfl, rfl, (Member.inRange_iff _ _).2 ⟨hentry, hopen, hd.2, ?_, hpassed, htrims, hlapses,
    .inr hle, hexpected⟩, (Member.phaseAgrees_iff _).2 ?_, hl.ringNodup.tail, fun x => ?_⟩
  · show m.drawOut ≤ 509
    omega
  · have hpos : 0 < d ∨ 0 < m.drawOut := .inl hd.1
    have hne : d ≠ 0 := by omega
    simpa [Member.issued, hzero, hpos, hne] using hlap
  · show x ∈ g.ring.tail ↔ _
    rw [hring, List.tail_cons]
    split
    · rename_i hx
      rw [hx]
      simp [Member.issued, (List.nodup_cons.1 hnodup).1]
    · rename_i hx
      simp [hx]

/-! ## An added member -/

/-- The member that an addition puts on the roster (R51, R72, R75). -/
def Gather.added (g : Gather) (e : Nat) (t : Token) (announced : Bool) (expected : Option Nat) : Member :=
  { Member.taken e t announced expected g.allowance with phase := if 0 < g.allowance then .opening else .waiting }

/-- What an addition of a free entry does to a lawful record. -/
theorem Gather.LawfulActive.addMember (hl : g.LawfulActive) (ha : g.stage = .active) (pf : Profile) {e : Nat}
    {t : Token} (announced : Bool) {expected : Option Nat} (he : e < 65536) (hfresh : e ∉ g.entries)
    (htoken : g.byToken t = none) (hlen : g.roster.length < 256)
    (hexpected : ∀ x, expected = some x → 0 < x ∧ x ≤ 65535) :
    g.addMember pf e t announced expected = { g with
        roster := g.roster ++ [g.added e t announced expected]
        ring := if g.allowance = 0 then g.ring ++ [e] else g.ring } ∧
      (g.addMember pf e t announced expected).LawfulActive := by
  have hring : e ∉ g.ring := fun h => by
    obtain ⟨m, hm, rfl, -⟩ := (hl.ring e).1 h
    exact hfresh (List.mem_map_of_mem hm)
  have heq := Gather.addMember_eq pf e t announced expected g ha
    (fun x hx hxe => hfresh (hxe ▸ List.mem_map_of_mem hx)) hring
  refine ⟨heq, ?_⟩
  rw [heq]
  have hnotoken : t ∉ g.roster.map Member.token := fun h => by
    obtain ⟨m, hm, rfl⟩ := List.mem_map.1 h
    exact absurd (List.find?_eq_none.1 htoken m hm) (by simp)
  have hmem : ∀ P : Member → Prop, (∀ m ∈ g.roster, P m) → P (g.added e t announced expected) →
      ∀ m ∈ g.roster ++ [g.added e t announced expected], P m := fun P h1 h2 m hm =>
    (List.mem_append.1 hm).elim (h1 m) fun h => List.mem_singleton.1 h ▸ h2
  exact {
    port := hl.port
    clsPos := hl.clsPos
    cls := hl.cls
    allowance := hl.allowance
    announced := hl.announced
    length := by simpa using hlen
    entries := by
      simp only [Gather.entries, List.map_append, List.map_singleton]
      exact List.nodup_append.2 ⟨hl.entries, List.nodup_singleton _, fun x hx y hy hxy =>
        hfresh ((hxy.trans (List.mem_singleton.1 hy) : x = e) ▸ hx)⟩
    tokens := by
      simp only [List.map_append, List.map_singleton]
      exact List.nodup_append.2 ⟨hl.tokens, List.nodup_singleton _, fun x hx y hy hxy =>
        hnotoken ((hxy.trans (List.mem_singleton.1 hy) : x = t) ▸ hx)⟩
    range := hmem _ hl.range ((Member.inRange_iff _ _).2 ⟨he, Nat.le_refl _, Nat.zero_le _, Nat.zero_le _, Nat.zero_le _,
      Nat.zero_le _, Nat.zero_le _, .inl rfl, hexpected⟩)
    ringNodup := by
      dsimp only
      split
      · exact List.nodup_append.2 ⟨hl.ringNodup, List.nodup_singleton _, fun x hx y hy hxy =>
          hring (by rw [List.mem_singleton.1 hy] at hxy; exact hxy ▸ hx)⟩
      · exact hl.ringNodup
    ring := fun x => by
      dsimp only
      rcases Nat.eq_zero_or_pos g.allowance with h0 | h0
      · simp only [h0, ite_true, List.mem_append, List.mem_singleton, hl.ring, Nat.lt_irrefl, ite_false,
          or_and_right, exists_or, exists_eq_left, and_true]
        exact or_congr_right eq_comm
      · simp [Nat.ne_of_gt h0, hl.ring, h0, or_and_right, exists_or]
    phases := hmem _ hl.phases ((Member.phaseAgrees_iff _).2 (by
      rcases Nat.eq_zero_or_pos g.allowance with h0 | h0
      · simp [Gather.added, Member.taken, h0]
      · simp [Gather.added, Member.taken, h0]))
    linger := hl.linger }

end

end Sys2Proof.Machine

/-! The life of a record in its slot, and the operations on one record: each leads from a sound state to a sound one, and
each slot's record goes on or ends (R1, R44 to R48, R121 to R126). -/

namespace Sys2Proof.Machine

/-! ## The life of a record -/

/-- A record goes on as `g'`: it keeps its key and its opening allowance, and one in LINGER is not changed at all (R1, R46,
R54). -/
def Gather.Continues (g g' : Gather) : Prop :=
  g'.port = g.port ∧ g'.tag = g.tag ∧ g'.allowance = g.allowance ∧ (g.stage ≠ .active → g' = g)

/-- What may become of a slot where no OPEN takes it: a FREE slot stays as it is, a record goes on, or, where `ends` holds,
it goes FREE with the next generation (R44, R48). -/
inductive Slot.Lives (ends : Bool) : Slot → Slot → Prop
  | vacant (n : BitVec 8) : Slot.Lives ends ⟨n, none⟩ ⟨n, none⟩
  | stands (n : BitVec 8) (g g' : Gather) : g.Continues g' → Slot.Lives ends ⟨n, some g⟩ ⟨n, some g'⟩
  | freed (n : BitVec 8) (g : Gather) : ends = true → Slot.Lives ends ⟨n, some g⟩ ⟨n + 1#8, none⟩

theorem Gather.Continues.refl (g : Gather) : g.Continues g := ⟨rfl, rfl, rfl, fun _ => rfl⟩

theorem Gather.Continues.trans {g g' g'' : Gather} (h : g.Continues g') (h' : g'.Continues g'') : g.Continues g'' := by
  obtain ⟨hport, htag, hallow, hlinger⟩ := h
  obtain ⟨hport', htag', hallow', hlinger'⟩ := h'
  refine ⟨hport'.trans hport, htag'.trans htag, hallow'.trans hallow, fun hs => ?_⟩
  have hg := hlinger hs
  rw [hlinger' (hg ▸ hs), hg]

theorem Slot.Lives.refl {ends : Bool} (x : Slot) : Slot.Lives ends x x := by
  obtain ⟨n, _ | g⟩ := x
  · exact .vacant n
  · exact .stands n g g (Gather.Continues.refl g)

theorem Slot.Lives.trans {ends : Bool} {x y z : Slot} (h : Slot.Lives ends x y) (h' : Slot.Lives ends y z) :
    Slot.Lives ends x z := by
  cases h with
  | vacant n => exact h'
  | freed n g he => cases h' with | vacant => exact .freed n g he
  | stands n g g' hg =>
    cases h' with
    | stands _ _ g'' hg' => exact .stands n g g'' (hg.trans hg')
    | freed _ _ he => exact .freed n g he

/-! ## Sound states and what leads from one to another -/

/-- A state of the form, with room for at most `n` answers, whose records are lawful. -/
structure State.Sound (n : Nat) (s : State) : Prop where
  formed : s.Formed n
  work : s.Work

/-- `t` is sound, and each slot of `t` is what may become of the slot of `s`. -/
structure State.Leads (ends : Bool) (n : Nat) (s t : State) : Prop where
  formed : t.Formed n
  work : t.Work
  lives : ∀ k, (s.slot k).Lives ends (t.slot k)

theorem State.Safe.sound {s : State} (h : s.Safe) : s.Sound 64 := ⟨h.formed, h.work⟩

theorem State.Sound.safe {s : State} (h : s.Sound 64) : s.Safe := h.work.safe h.formed

section
variable {ends : Bool} {n n' k : Nat} {s t u : State} {g g' : Gather}

theorem State.Leads.sound (h : s.Leads ends n t) : t.Sound n := ⟨h.formed, h.work⟩

theorem State.Sound.refl (h : s.Sound n) : s.Leads ends n s := ⟨h.formed, h.work, fun _ => Slot.Lives.refl _⟩

theorem State.Leads.trans (h : s.Leads ends n t) (h' : t.Leads ends n' u) : s.Leads ends n' u :=
  ⟨h'.formed, h'.work, fun k => (h.lives k).trans (h'.lives k)⟩

theorem State.Sound.active (h : s.Sound n) (hg : s.gather? k = some g) (ha : g.stage = .active) : g.LawfulActive :=
  (Gather.lawful_iff ha).1 (h.work.lawful k g hg)

/-- A change that reaches neither the records nor what accounts for them. -/
theorem State.Sound.apart (h : s.Sound n) (hf : t.Formed n') (hslots : t.slots = s.slots) (hfree : t.free = s.free)
    (hemq : t.emq = s.emq) (hports : t.ports = s.ports) : s.Leads ends n' t := by
  have hport : ∀ p, t.port p = s.port p := fun p => by rw [State.port, hports]; rfl
  refine ⟨hf, h.work.congr hslots hfree hemq (fun p => by rw [hport]; exact id) fun p => by rw [hport]; exact ⟨rfl, rfl⟩,
    fun k => ?_⟩
  rw [State.slot, State.slot, hslots]
  exact Slot.Lives.refl _

/-- A change of a port that leaves its queues and its O, and does not disable it. -/
theorem State.Sound.setPort (h : s.Sound n) {p : Nat} {v : Port} (hv : v.Formed p (s.profileAt v.profile.toNat))
    (henabled : (s.port p).enabled = true → v.enabled = true) (ho : v.outstanding = (s.port p).outstanding)
    (hq : v.queues = (s.port p).queues) : s.Leads ends n (s.setPort p v) := by
  refine ⟨h.formed.setPort hv, h.work.congr rfl rfl rfl (fun q => ?_) fun q => ?_, fun _ => Slot.Lives.refl _⟩
  · rw [State.port_setPort]
    split
    · rename_i hp; exact hp ▸ henabled
    · exact id
  · rw [State.port_setPort]
    split
    · rename_i hp; exact hp ▸ ⟨ho, hq⟩
    · exact ⟨rfl, rfl⟩

/-- An accounted change of one record leads to a sound state. -/
theorem State.Sound.rewrite (h : s.Sound n) (hf : t.Formed n) {new : Option Gather} (r : State.Rewrites k new s t)
    (hl : (s.slot k).Lives ends (t.slot k)) : s.Leads ends n t := by
  refine ⟨hf, h.work.rewrite h.formed.slots r, fun j => ?_⟩
  by_cases hj : j = k
  · exact hj ▸ hl
  · rw [r.others j hj]; exact Slot.Lives.refl _

/-! ## What accounts for a record -/

theorem State.validMember_iff {e : Emission} {m : Member} : s.validMember e = some (g, m) ↔
    s.gather? e.slot = some g ∧ (s.slot e.slot).generation = e.generation ∧ g.stage = .active ∧ g.port = e.port ∧
      g.tag = e.tag ∧ g.member? e.entry = some m ∧ m.token = e.token ∧ m.drawQueued = e.cells := by
  unfold State.validMember
  cases hg : s.gather? e.slot with
  | none => simp
  | some x =>
    dsimp only
    by_cases hc : (s.slot e.slot).generation = e.generation ∧ x.stage = .active ∧ x.port = e.port ∧ x.tag = e.tag
    · rw [if_pos hc]
      cases hm : x.member? e.entry with
      | none => simp; rintro rfl; simp [hm]
      | some y =>
        dsimp only
        by_cases hd : y.token = e.token ∧ y.drawQueued = e.cells
        · rw [if_pos hd]
          constructor
          · intro h
            simp only [Option.some.injEq, Prod.mk.injEq] at h
            obtain ⟨rfl, rfl⟩ := h
            exact ⟨rfl, hc.1, hc.2.1, hc.2.2.1, hc.2.2.2, hm, hd⟩
          · rintro ⟨h, -, -, -, -, hm', -⟩
            obtain rfl := Option.some.inj h
            rw [hm] at hm'
            rw [Option.some.inj hm']
        · rw [if_neg hd]
          refine ⟨nofun, ?_⟩
          rintro ⟨h, -, -, -, -, hm', hd'⟩
          obtain rfl := Option.some.inj h
          rw [hm] at hm'
          exact absurd (Option.some.inj hm' ▸ hd') hd
    · rw [if_neg hc]
      refine ⟨nofun, ?_⟩
      rintro ⟨h, h1, h2, h3, h4, -⟩
      obtain rfl := Option.some.inj h
      exact absurd ⟨h1, h2, h3, h4⟩ hc

/-- The cells that an ACTIVE record owes are among its port's O (R121). -/
theorem State.Sound.owed_le (h : s.Sound n) (hg : s.gather? k = some g) (ha : g.stage = .active) :
    g.owed ≤ (s.port g.port).outstanding := by
  rw [h.work.draws g.port (h.active hg ha).port, State.owedAt_split h.formed.slots k, hg]
  simp [Gather.owedFor, ha]

theorem Gather.owedFor_other {p : Nat} (h : p ≠ g.port) : g.owedFor p = 0 := by
  simp [Gather.owedFor, Ne.symm h]

theorem Gather.owedFor_self (ha : g.stage = .active) : g.owedFor g.port = g.owed := by simp [Gather.owedFor, ha]

theorem Gather.owedFor_lingering (p : Nat) (ha : g.stage ≠ .active) : g.owedFor p = 0 := by simp [Gather.owedFor, ha]

/-- The key of a standing record is no other record's (R35). -/
theorem State.Work.key_unique (h : s.Work) (hg : s.gather? k = some g) (hport : g'.port = g.port) (htag : g'.tag = g.tag)
    (j : Nat) (x : Gather) (hj : j ≠ k) (hx : s.gather? j = some x) : ¬(x.port = g'.port ∧ x.tag = g'.tag) :=
  fun hk => hj (h.keys j k x g hx hg (hk.1.trans hport) (hk.2.trans htag))

/-! ## The change of a standing record -/

/-- A changed record's place on the class queues, where they agreed with the record before (R123). -/
theorem State.putGather_queues (hq : s.QueuesAgree) (hg : s.gather? k = some g) (hport : g'.port = g.port) {p : Nat}
    (hp : p < 48) (c : Nat) : (((s.putGather k g g').port p).queue c).Nodup ∧
      (∀ j, j ≠ k → (j ∈ ((s.putGather k g g').port p).queue c ↔ j ∈ (s.port p).queue c)) ∧
      (k ∈ ((s.putGather k g g').port p).queue c ↔ g'.queued = true ∧ g'.port = p ∧ g'.cls = c) := by
  obtain ⟨hn, hm⟩ := hq p hp c
  have hself : k ∈ (s.port p).queue c ↔ g.queued = true ∧ g.port = p ∧ g.cls = c := by
    rw [hm k, hg]; simp
  obtain ⟨-, -, hother, -, -, hqueue⟩ := State.putGather_cases s k g g' hport
  by_cases hpp : p = g.port
  · subst hpp
    rw [hqueue c]
    by_cases hkeep : keepsPlace g g' = true
    · simp only [keepsPlace, Bool.and_eq_true, decide_eq_true_eq] at hkeep
      obtain ⟨⟨hold, hnew⟩, hcls⟩ := hkeep
      have hkeep' : keepsPlace g g' = true := by simp [keepsPlace, hold, hnew, hcls]
      rw [if_pos hkeep']
      exact ⟨hn, fun _ _ => Iff.rfl, by rw [hself]; simp [hold, hnew, hcls, hport]⟩
    · rw [if_neg hkeep]
      have hout : k ∉ (if g.queued = true ∧ c = g.cls then ((s.port g.port).queue c).filter (· ≠ k)
          else (s.port g.port).queue c) := by
        split
        · simp
        · rename_i hnot
          exact fun h => hnot ⟨(hself.1 h).1, (hself.1 h).2.2.symm⟩
      have hin : ∀ j, j ≠ k → (j ∈ (if g.queued = true ∧ c = g.cls then ((s.port g.port).queue c).filter (· ≠ k)
          else (s.port g.port).queue c) ↔ j ∈ (s.port g.port).queue c) := fun j hj => by
        split
        · simp [hj]
        · exact Iff.rfl
      refine ⟨List.nodup_append.2 ⟨?_, ?_, ?_⟩, fun j hj => ?_, ?_⟩
      · split
        · exact hn.filter _
        · exact hn
      · split <;> simp
      · intro x hx y hy hxy
        subst hxy
        split at hy
        · exact hout (List.mem_singleton.1 hy ▸ hx)
        · cases hy
      · rw [List.mem_append, hin j hj]
        refine ⟨fun h => h.resolve_right fun hk => ?_, .inl⟩
        split at hk
        · exact hj (List.mem_singleton.1 hk)
        · cases hk
      · rw [List.mem_append]
        by_cases hc : g'.queued = true ∧ c = g'.cls
        · simp [hc, hport]
        · simp only [if_neg hc, List.not_mem_nil, or_false]
          refine ⟨fun h => absurd h hout, fun ⟨h1, _, h3⟩ => absurd ⟨h1, h3.symm⟩ hc⟩
  · rw [hother p hpp]
    refine ⟨hn, fun _ _ => Iff.rfl, ?_⟩
    rw [hself]
    exact ⟨fun h => absurd h.2.1.symm hpp, fun h => absurd (hport ▸ h.2.1.symm) hpp⟩

/-- A changed record's ports differ from those before in their queues alone. -/
theorem State.putGather_port (s : State) (k : Nat) (hport : g'.port = g.port) (p : Nat) :
    ((s.putGather k g g').port p).enabled = (s.port p).enabled ∧
      ((s.putGather k g g').port p).outstanding = (s.port p).outstanding := by
  obtain ⟨-, -, hother, hself, -, -⟩ := State.putGather_cases s k g g' hport
  by_cases hp : p = g.port
  · subst hp
    have henabled := congrArg Port.enabled hself
    have hout := congrArg Port.outstanding hself
    exact ⟨henabled, hout⟩
  · rw [hother p hp]; exact ⟨rfl, rfl⟩

theorem State.queue_giveBack (s : State) (p cells q c : Nat) :
    ((s.giveBack p cells).port q).queue c = (s.port q).queue c := by
  rw [State.port_giveBack]
  split
  · rename_i h; subst h; rfl
  · rfl

/-- A return of no cells changes nothing. -/
theorem State.Formed.giveBack_zero (h : s.Formed n) (p : Nat) : s.giveBack p 0 = s := by
  show { s with ports := Table.set Port.reset s.ports p (Table.get Port.reset s.ports p) } = s
  rw [Table.set_get _ _ _ h.ports]

/-- An ACTIVE record is changed to another lawful ACTIVE one of the same key, and the cells that it no longer owes are
returned. The change is made in `u`, which is `s` but for entries taken from the free list for the record. -/
theorem State.Sound.put (h : s.Sound n) (hu : u.Formed n) (hslots : u.slots = s.slots) (hports : u.ports = s.ports)
    (hemq : u.emq = s.emq) (hg : s.gather? k = some g) (ha : g.stage = .active) (ha' : g'.stage = .active)
    (hport : g'.port = g.port) (htag : g'.tag = g.tag) (hallow : g'.allowance = g.allowance) (hl : g'.LawfulActive)
    (hpool : (freeEntries u.free ++ g'.entries).Perm (freeEntries s.free ++ g.entries)) {r : Nat}
    (howed : g'.owed + r = g.owed)
    (hq : ∀ m' ∈ g'.roster, 0 < m'.drawQueued →
      ∃ m ∈ g.roster, m.entry = m'.entry ∧ m.token = m'.token ∧ m.drawQueued = m'.drawQueued) :
    s.Leads ends n ((u.putGather k g g').giveBack g.port r) := by
  have hus : ∀ j, u.slot j = s.slot j := fun j => by rw [State.slot, hslots]; rfl
  have hup : ∀ p, u.port p = s.port p := fun p => by rw [State.port, hports]; rfl
  have hug : u.gather? k = some g := (State.gather?_congr (hus k)).trans hg
  have hagree : u.QueuesAgree := by
    simpa only [State.QueuesAgree, hup, State.gather?_congr (hus _)] using h.work.queues
  have hqueues := fun (p : Nat) (hp : p < 48) => State.putGather_queues hagree hug hport hp
  obtain ⟨hrec, hothers, -, -, -, -⟩ := State.putGather_cases u k g g' hport
  have hsame := State.putGather_port u k hport
  rw [hus] at hrec
  have hrecord : ((u.putGather k g g').giveBack g.port r).gather? k = some g' := congrArg Slot.body hrec
  have hkept : ((u.putGather k g g').giveBack g.port r).emq = s.emq := (u.putGather_emq k g g').trans hemq
  have hle := h.owed_le hg ha
  refine h.rewrite (k := k) (new := some g') ((hu.putGather k g g').giveBack _ _) ?_ ?_
  · exact {
      record := hrecord
      others := fun j hj => (hothers j hj).trans (hus j)
      slots := (hu.putGather k g g').slots
      enabled := fun p hp => by
        rw [State.port_giveBack]
        split
        · rename_i hpp; subst hpp; exact (hsame _).1.trans (hup _ ▸ hp)
        · exact (hsame _).1.trans (hup _ ▸ hp)
      nodup := fun p hp c => by rw [State.queue_giveBack]; exact (hqueues p hp c).1
      queueOthers := fun p hp c j hj => by rw [State.queue_giveBack, (hqueues p hp c).2.1 j hj, hup]
      queueSelf := fun p hp c => by rw [State.queue_giveBack, (hqueues p hp c).2.2]; simp
      draws := fun p hp => by
        have hout := (hsame p).2.trans (congrArg Port.outstanding (hup p))
        rw [State.port_giveBack, hg]
        simp only [Option.toList_some, List.map_singleton, List.sum_singleton]
        split
        · rename_i hpp
          subst hpp
          have hnew : g'.owedFor g.port = g'.owed := hport ▸ Gather.owedFor_self ha'
          rw [Gather.owedFor_self ha, hnew]
          show ((u.putGather k g g').port g.port).outstanding - r + g.owed = _
          omega
        · rename_i hpp
          rw [Gather.owedFor_other hpp, Gather.owedFor_other (hport ▸ hpp), hout]
      pool := by
        rw [hg, show ((u.putGather k g g').giveBack g.port r).free = u.free from u.putGather_free k g g']
        simpa using hpool
      emissions := by show ∀ e ∈ State.emq _, _; rw [hkept]; exact h.work.emissions
      entries := fun e he _ => hkept ▸ he
      slot := fun _ _ => h.work.slot k g hg
      lawful := fun x hx => Option.some.inj hx ▸ (Gather.lawful_iff ha').2 hl
      portOn := fun x hx => Option.some.inj hx ▸ hport ▸ h.work.enabled k g hg
      key := fun x hx => Option.some.inj hx ▸ h.work.key_unique hg hport htag
      queued := fun x hx _ m' hm' hpos => by
        obtain rfl := Option.some.inj hx
        obtain ⟨m, hm, hentry, htoken, hcells⟩ := hq m' hm' hpos
        obtain ⟨e, he, hes, hee, hv⟩ := h.work.queued k g hg ha m hm (hcells ▸ hpos)
        obtain ⟨-, hgen, -, hvport, hvtag, -, hvtoken, hvcells⟩ := State.validMember_iff.1 hv
        refine ⟨e, hkept ▸ he, hes, hee.trans hentry, State.validMember_iff.2 ?_⟩
        rw [hes] at hgen ⊢
        rw [hee, hentry]
        exact ⟨hrecord, (congrArg Slot.generation hrec).trans hgen, ha', hport.trans hvport, htag.trans hvtag,
          Gather.member?_of_mem hl.entries hm', htoken ▸ hvtoken, hcells ▸ hvcells⟩ }
  · rw [show ((u.putGather k g g').giveBack g.port r).slot k = _ from hrec, State.slot_of_gather? hg]
    exact .stands _ _ _ ⟨hport, htag, hallow, fun hne => absurd ha hne⟩

/-- A change of one member of an ACTIVE record, with the return of the cells that the member no longer holds. -/
theorem State.Sound.alter (h : s.Sound n) (hg : s.gather? k = some g) (ha : g.stage = .active) {m m' : Member}
    (halt : g.Alters m m' g') {r : Nat} (hr : r + (m'.drawQueued + m'.drawOut) = m.drawQueued + m.drawOut)
    (hq : m'.drawQueued = 0 ∨ m'.drawQueued = m.drawQueued) :
    s.Leads ends n ((s.putGather k g g').giveBack g.port r) := by
  have hl := h.active hg ha
  obtain ⟨hport, htag, hallow, hstage, -, -⟩ := halt.same
  have howed := halt.owed hl.entries
  have hpool : (freeEntries s.free ++ g'.entries).Perm (freeEntries s.free ++ g.entries) := by rw [halt.entries]
  refine h.put h.formed rfl rfl rfl hg ha (hstage.trans ha) hport htag hallow (halt.lawful hl) hpool (by omega) ?_
  intro x hx hpos
  rcases (halt.mem_roster hl.entries x).1 hx with rfl | ⟨hx, -⟩
  · exact ⟨m, halt.mem, halt.entry.symm, halt.token.symm, (hq.resolve_left (Nat.ne_of_gt hpos)).symm⟩
  · exact ⟨x, hx, rfl, rfl, rfl⟩

/-- A change of a record's fields that leaves its key, its allowance, its members and its stage. -/
theorem State.Sound.recast (h : s.Sound n) (hg : s.gather? k = some g) (ha : g.stage = .active)
    (ha' : g'.stage = .active) (hport : g'.port = g.port) (htag : g'.tag = g.tag) (hallow : g'.allowance = g.allowance)
    (hroster : g'.roster = g.roster) (hl : g'.LawfulActive) : s.Leads ends n (s.putGather k g g') := by
  have hpool : (freeEntries s.free ++ g'.entries).Perm (freeEntries s.free ++ g.entries) := by
    rw [Gather.entries, hroster]; exact List.Perm.refl _
  have hput := h.put (ends := ends) h.formed rfl rfl rfl hg ha ha' hport htag hallow hl hpool (r := 0)
    (by rw [Nat.add_zero, Gather.owed, Gather.owed, hroster]) (fun m hm _ => ⟨m, hroster ▸ hm, rfl, rfl, rfl⟩)
  rwa [(h.formed.putGather k g g').giveBack_zero] at hput

/-- A record that keeps its place on the class queues is written in its slot. -/
theorem State.putGather_eq_setGather (s : State) (k : Nat) (hq : g'.queued = g.queued) (hc : g'.cls = g.cls) :
    s.putGather k g g' = s.setGather k g' := by
  cases hold : g.queued <;> simp [State.putGather, keepsPlace, appends, hq, hold, hc]

/-! ## A record leaves ACTIVE -/

/-- An ACTIVE record leaves ACTIVE, and its slot then holds a lingering record or none. -/
theorem State.Sound.leave (h : s.Sound n) (hg : s.gather? k = some g) (ha : g.stage = .active) (hf : t.Formed n)
    (hports : t.ports = (s.leaveActive k g).ports) (hemq : t.emq = s.emq) (hothers : ∀ j, j ≠ k → t.slot j = s.slot j)
    (hnew : ∀ x, t.gather? k = some x → x.lawful = true ∧ x.port = g.port ∧ x.tag = g.tag ∧ x.stage ≠ .active)
    (hpool : (freeEntries t.free ++ (t.gather? k).toList.flatMap Gather.entries).Perm
      (freeEntries s.free ++ g.entries))
    (hlives : (s.slot k).Lives ends (t.slot k)) : s.Leads ends n t := by
  obtain ⟨-, -, hqueue, hself, hother, -⟩ := State.leaveActive_cases s k g
  have hport : ∀ p, t.port p = (s.leaveActive k g).port p := fun p => by rw [State.port, hports]; rfl
  have hfields : ∀ p, (t.port p).enabled = (s.port p).enabled ∧
      (t.port p).outstanding = (s.port p).outstanding - if p = g.port then g.owed else 0 := by
    intro p
    rw [hport]
    by_cases hp : p = g.port
    · subst hp
      rw [if_pos rfl]
      have he := congrArg Port.enabled hself
      have ho := congrArg Port.outstanding hself
      exact ⟨he, ho⟩
    · rw [if_neg hp, hother p hp]
      exact ⟨rfl, rfl⟩
  have hle := h.owed_le hg ha
  have hmem : ∀ p, p < 48 → ∀ c, k ∈ (s.port p).queue c ↔ g.queued = true ∧ g.port = p ∧ g.cls = c := by
    intro p hp c
    rw [(h.work.queues p hp c).2 k, hg]
    simp
  have hq : ∀ p, p < 48 → ∀ c, (t.port p).queue c = ((s.port p).queue c).filter (· ≠ k) := by
    intro p hp c
    have hfilter : k ∉ (s.port p).queue c → ((s.port p).queue c).filter (· ≠ k) = (s.port p).queue c := fun hk =>
      List.filter_eq_self.2 fun j hj => decide_eq_true fun hjk => hk (hjk ▸ hj)
    rw [hport]
    by_cases hpp : p = g.port
    · subst hpp
      rw [hqueue c]
      split
      · rfl
      · rename_i hnot
        exact (hfilter fun hk => hnot ⟨((hmem _ hp c).1 hk).1, ((hmem _ hp c).1 hk).2.2.symm⟩).symm
    · rw [hother p hpp]
      exact (hfilter fun hk => hpp ((hmem p hp c).1 hk).2.1.symm).symm
  refine h.rewrite hf (new := t.gather? k) ?_ hlives
  exact {
    record := rfl
    others := hothers
    slots := hf.slots
    enabled := fun p hp => (hfields p).1.trans hp
    nodup := fun p hp c => by rw [hq p hp c]; exact (h.work.queues p hp c).1.filter _
    queueOthers := fun p hp c j hj => by rw [hq p hp c]; simp [hj]
    queueSelf := fun p hp c => by
      rw [hq p hp c]
      refine ⟨fun hk => by simp at hk, ?_⟩
      rintro ⟨x, hx, hxq, -, -⟩
      have hstage := (hnew x hx).2.2.2
      simp [Gather.queued, hstage] at hxq
    draws := fun p hp => by
      have hnone : ((t.gather? k).toList.map (Gather.owedFor p)).sum = 0 := by
        cases hx : t.gather? k with
        | none => rfl
        | some x => simp [Gather.owedFor_lingering p (hnew x hx).2.2.2]
      rw [hnone, (hfields p).2, hg]
      simp only [Option.toList_some, List.map_singleton, List.sum_singleton]
      split
      · rename_i hpp; subst hpp; rw [Gather.owedFor_self ha]; omega
      · rename_i hpp; rw [Gather.owedFor_other hpp]; omega
    pool := by
      rw [hg]
      simpa using hpool
    emissions := by show ∀ e ∈ t.emq, _; rw [hemq]; exact h.work.emissions
    entries := fun e he _ => hemq ▸ he
    slot := fun _ _ => h.work.slot k g hg
    lawful := fun x hx => (hnew x hx).1
    portOn := fun x hx => (hnew x hx).2.1 ▸ h.work.enabled k g hg
    key := fun x hx => h.work.key_unique hg (hnew x hx).2.1 (hnew x hx).2.2.1
    queued := fun x hx hxa => absurd hxa (hnew x hx).2.2.2 }

/-- An ACTIVE record lingers (R45, R46). -/
theorem State.Sound.linger (h : s.Sound n) (hg : s.gather? k = some g) (ha : g.stage = .active) (o : Ending) (d : Time) :
    s.Leads ends n ((s.leaveActive k g).setGather k { g.left with stage := .linger o, lingerAt := some d }) := by
  obtain ⟨hself, hothers, -, -, -, -⟩ := State.leaveActive_cases s k g
  have hent : Gather.entries { g.left with stage := .linger o, lingerAt := some d } = g.entries := by
    simp only [Gather.left, Gather.entries, List.map_map]; rfl
  have hslot : ((s.leaveActive k g).setGather k { g.left with stage := .linger o, lingerAt := some d }).slot k =
      ⟨(s.slot k).generation, some { g.left with stage := .linger o, lingerAt := some d }⟩ := by
    rw [State.slot_setGather, if_pos rfl, hself]
  refine h.leave hg ha ((h.formed.leaveActive k g).setGather k _) rfl (s.leaveActive_emq k g)
    (fun j hj => by rw [State.slot_setGather, if_neg hj, hothers j hj]) ?_ ?_ ?_
  · intro x hx
    rw [State.gather?, hslot] at hx
    obtain rfl := Option.some.inj hx
    exact ⟨Gather.left_lawful (h.active hg ha) o d, rfl, rfl, nofun⟩
  · rw [State.gather?, hslot, State.setGather_free, State.leaveActive_free]
    simp [hent]
  · rw [hslot, State.slot_of_gather? hg]
    exact .stands _ _ _ ⟨rfl, rfl, rfl, fun hne => absurd ha hne⟩

/-- An ACTIVE record goes FREE (R45, R48). -/
theorem State.Sound.free (h : s.Sound n) (hg : s.gather? k = some g) (ha : g.stage = .active) :
    s.Leads true n ((s.leaveActive k g).freeSlot k g) := by
  obtain ⟨hself, hothers, -, -, -, -⟩ := State.leaveActive_cases s k g
  obtain ⟨hfreed, hrest, hfree⟩ := State.freeSlot_entries (s.leaveActive k g) k g
  rw [hself] at hfreed
  refine h.leave hg ha ((h.formed.leaveActive k g).freeSlot k g) rfl (s.leaveActive_emq k g)
    (fun j hj => (hrest j hj).trans (hothers j hj)) ?_ ?_ ?_
  · intro x hx
    rw [State.gather?, hfreed] at hx
    cases hx
  · rw [State.gather?, hfreed, hfree, State.leaveActive_free]
    simp [Gather.entries]
  · rw [hfreed, State.slot_of_gather? hg]
    exact .freed _ _ rfl

/-- A lingering record goes FREE (R47, R48). -/
theorem State.Sound.freeLingering (h : s.Sound n) (hg : s.gather? k = some g) (ha : g.stage ≠ .active) :
    s.Leads true n (s.freeSlot k g) := by
  obtain ⟨hfreed, hrest, hfree⟩ := State.freeSlot_entries s k g
  have hnone : (s.freeSlot k g).gather? k = none := congrArg Slot.body hfreed
  have hnot : ∀ p, p < 48 → ∀ c, k ∉ (s.port p).queue c := fun p hp c hk => by
    obtain ⟨x, hx, hxq, -, -⟩ := ((h.work.queues p hp c).2 k).1 hk
    rw [hg] at hx
    obtain rfl := Option.some.inj hx
    simp [Gather.queued, ha] at hxq
  refine h.rewrite (k := k) (h.formed.freeSlot k g) (new := none) ?_ ?_
  · exact {
      record := hnone
      others := hrest
      slots := (h.formed.freeSlot k g).slots
      enabled := fun _ => id
      nodup := fun p hp c => (h.work.queues p hp c).1
      queueOthers := fun _ _ _ _ _ => Iff.rfl
      queueSelf := fun p hp c => ⟨fun hk => absurd hk (hnot p hp c), nofun⟩
      draws := fun p _ => by rw [hg]; simp [Gather.owedFor_lingering p ha, State.port_freeSlot]
      pool := by rw [hg, hfree]; simp [Gather.entries]
      emissions := h.work.emissions
      entries := fun _ he _ => he
      slot := nofun
      lawful := nofun
      portOn := nofun
      key := nofun
      queued := nofun }
  · rw [hfreed, State.slot_of_gather? hg]
    exact .freed _ _ rfl

end

end Sys2Proof.Machine

/-! Draws, departures, the link reset's walk, endings and retirements: each leads from a sound state to a sound one. -/

namespace Sys2Proof.Machine

section
variable {ends : Bool} {n n' k p : Nat} {s t : State} {g g' : Gather}

/-! ## Offers and attention -/

theorem State.Sound.offer (h : s.Sound n) (p : Nat) (ev : MeterEvent) (inc : Nat) : s.Leads ends n (s.offer p ev inc) :=
  h.apart (h.formed.offer p ev inc) (s.offer_slots ..) (s.offer_free ..) (s.offer_emq ..) (s.offer_ports ..)

theorem State.Sound.raise (h : s.Sound n) (src : AttnSource) : s.Leads ends n (s.raise src) :=
  h.apart (h.formed.raise src) rfl rfl rfl rfl

/-! ## The draw pass -/

/-- The draw to try is that of a queued record of the port, to the WAITING member at the head of its ring (R129). -/
theorem State.Work.headDraw (h : s.Work) (hp : p < 48) {d : Draw} (hd : s.headDraw p = some d) :
    s.gather? d.slot = some d.gather ∧ d.gather.queued = true ∧ d.gather.port = p ∧ d.gather.cls = d.cls ∧
      ((s.port p).queue d.cls).head? = some d.slot ∧ d.member ∈ d.gather.roster ∧
      d.gather.ring.head? = some d.member.entry ∧ d.cells = d.member.drawSize (s.profileOf p) := by
  unfold State.headDraw at hd
  split at hd
  · cases hd
  · rename_i c _
    split at hd
    · cases hd
    · rename_i k hk
      split at hd
      · cases hd
      · rename_i g hg
        split at hd
        · cases hd
        · rename_i e he
          split at hd
          · cases hd
          · rename_i m hm
            obtain rfl := Option.some.inj hd
            obtain ⟨hmem, rfl⟩ := Gather.mem_of_member? hm
            obtain ⟨x, hx, hq, hport, hcls⟩ := ((h.queues p hp c).2 k).1 (List.mem_of_head? hk)
            rw [hg] at hx
            obtain rfl := Option.some.inj hx
            exact ⟨hg, hq, hport, hcls, hk, hmem, he, rfl⟩

theorem Gather.queued_iff : g.queued = true ↔ g.stage = .active ∧ g.suspended = false ∧ g.ring ≠ [] := by
  simp [Gather.queued, and_assoc]

theorem State.issue_slots (s : State) (p : Nat) (d : Draw) :
    (s.issue p d).slots = (s.setGather d.slot (d.gather.issue d.cells d.member)).slots := by
  simp [State.issue]; rfl

theorem State.issue_ports (s : State) (p : Nat) (d : Draw) :
    (s.issue p d).ports = (s.setPort p ((s.port p).issued d)).ports := by
  simp [State.issue]

theorem State.issue_free (s : State) (p : Nat) (d : Draw) : (s.issue p d).free = s.free := by
  simp [State.issue]

/-- What an issue does to the class queue that the served record heads (R133). -/
theorem servedQueue_mem {q : List Nat} {k : Nat} (hq : q.Nodup) (hk : q.head? = some k) (ring : List Nat) :
    (servedQueue q k ring).Nodup ∧ (∀ j, j ≠ k → (j ∈ servedQueue q k ring ↔ j ∈ q)) ∧
      (k ∈ servedQueue q k ring ↔ ring ≠ []) := by
  obtain ⟨rest, rfl⟩ : ∃ rest, q = k :: rest := List.head?_eq_some_iff.1 hk
  obtain ⟨hnot, hrest⟩ := List.nodup_cons.1 hq
  cases ring with
  | nil => exact ⟨hrest, fun j hj => by simp [servedQueue, hj], by simp [servedQueue, hnot]⟩
  | cons x ring =>
    have heq : servedQueue (k :: rest) k (x :: ring) = rest ++ [k] := by simp [servedQueue]
    rw [heq]
    refine ⟨List.nodup_append.2 ⟨hrest, List.nodup_singleton _, fun a ha b hb hab => ?_⟩, fun j hj => by simp [hj],
      by simp⟩
    exact hnot (List.mem_singleton.1 hb ▸ hab ▸ ha)

/-- The port's queues, total and enable state after an issue (R132, R133). -/
theorem State.port_issue (s : State) (p : Nat) (d : Draw) (q : Nat) : (s.issue p d).port q =
    if q = p then (s.port p).issued d else s.port q := by
  rw [State.port, State.issue_ports]; exact State.port_setPort ..

/-- An issue of the draw to try (R90, R132, R133, R136). -/
theorem State.Sound.issue (h : s.Sound n) (hp : p < 48) {d : Draw} (hd : s.headDraw p = some d)
    (ho : (s.port p).outstanding + d.cells ≤ (s.port p).flight) (hlen : s.emq.length < 256) :
    s.Leads ends n (s.issue p d) := by
  obtain ⟨hg, hqueued, hport, hcls, hhead, hmem, hring, hcells⟩ := h.work.headDraw hp hd
  obtain ⟨ha, hsusp, hne⟩ := Gather.queued_iff.1 hqueued
  have hl := h.active hg ha
  have hsize := Member.drawSize_range (s.profileOf p) (h.formed.legal _).quantum d.member
  rw [← hcells] at hsize
  have halt := Gather.issue_alters hl hmem hring hsize
  obtain ⟨-, -, -, hnodraw, -⟩ := (Member.phaseAgrees_iff _).1 (hl.phases _ hmem)
  have hwait : d.member.phase = .waiting := (hl.mem_ring hmem).1 (List.mem_of_head? hring)
  have hzero := hnodraw (by rw [hwait]; nofun)
  have hslot : ∀ j, (s.issue p d).slot j = if j = d.slot then
      ⟨(s.slot d.slot).generation, some (d.gather.issue d.cells d.member)⟩ else s.slot j := fun j => by
    rw [State.slot, State.issue_slots]; exact State.slot_setGather ..
  have hself := hslot d.slot
  rw [if_pos rfl] at hself
  have hrecord : (s.issue p d).gather? d.slot = some (d.gather.issue d.cells d.member) := congrArg Slot.body hself
  have hserved := servedQueue_mem (h.work.queues p hp d.cls).1 hhead d.gather.ring.tail
  have hqueue : ∀ q c, ((s.issue p d).port q).queue c = if q = p ∧ c = d.cls then
      servedQueue ((s.port p).queue d.cls) d.slot d.gather.ring.tail else (s.port q).queue c := by
    intro q c
    rw [State.port_issue]
    by_cases hq : q = p
    · subst hq
      rw [if_pos rfl]
      exact (Port.queue_setQueue (s.port q) d.cls c _).trans (by simp)
    · simp [hq]
  have hqnew : (d.gather.issue d.cells d.member).queued = true ↔ d.gather.ring.tail ≠ [] := by
    rw [Gather.queued_iff]
    exact ⟨fun hx => hx.2.2, fun hx => ⟨ha, hsusp, hx⟩⟩
  have hmine : ∀ q, q < 48 → ∀ c, d.slot ∈ (s.port q).queue c ↔ q = p ∧ c = d.cls := by
    intro q hq c
    rw [(h.work.queues q hq c).2, hg]
    constructor
    · rintro ⟨x, hx, -, hxport, hxcls⟩
      obtain rfl := Option.some.inj hx
      exact ⟨hxport.symm.trans hport, hxcls.symm.trans hcls⟩
    · rintro ⟨rfl, rfl⟩
      exact ⟨_, rfl, hqueued, hport, hcls⟩
  refine h.rewrite (k := d.slot) (new := some (d.gather.issue d.cells d.member)) (h.formed.issue ho hlen) ?_ ?_
  · exact {
      record := hrecord
      others := fun j hj => by rw [hslot, if_neg hj]
      slots := (h.formed.issue ho hlen).slots
      enabled := fun q hq => by
        rw [State.port_issue]
        split
        · rename_i hqp; subst hqp; exact hq
        · exact hq
      nodup := fun q hq c => by
        rw [hqueue]
        split
        · exact hserved.1
        · exact (h.work.queues q hq c).1
      queueOthers := fun q hq c j hj => by
        rw [hqueue]
        split
        · rename_i hqc; rw [hserved.2.1 j hj, hqc.1, hqc.2]
        · exact Iff.rfl
      queueSelf := fun q hq c => by
        have hkey : (d.gather.issue d.cells d.member).port = p ∧ (d.gather.issue d.cells d.member).cls = d.cls :=
          ⟨hport, hcls⟩
        simp only [Option.some.injEq, exists_eq_left', hqnew, hkey.1, hkey.2]
        rw [hqueue]
        split
        · rename_i hqc; rw [hserved.2.2]; simp [hqc.1, hqc.2]
        · rename_i hqc
          rw [hmine q hq c]
          exact ⟨fun hx => absurd hx hqc, fun hx => absurd ⟨hx.2.1.symm, hx.2.2.symm⟩ hqc⟩
      draws := fun q hq => by
        have howed := halt.owed hl.entries
        have hgain : d.gather.owed + d.cells = (d.gather.issue d.cells d.member).owed := by
          simp only [Member.issued, hzero] at howed
          omega
        rw [State.port_issue, hg]
        simp only [Option.toList_some, List.map_singleton, List.sum_singleton]
        split
        · rename_i hqp
          subst hqp
          have hnew : Gather.owedFor q (d.gather.issue d.cells d.member) = (d.gather.issue d.cells d.member).owed :=
            hport ▸ Gather.owedFor_self ha
          have hold : d.gather.owedFor q = d.gather.owed := hport ▸ Gather.owedFor_self ha
          rw [hnew, hold, ← hgain]
          show (s.port q).outstanding + d.cells + d.gather.owed = _
          omega
        · rename_i hqp
          rw [Gather.owedFor_other (hport ▸ hqp), Gather.owedFor_other (hport ▸ hqp)]
      pool := by
        have hent : (d.gather.issue d.cells d.member).entries = d.gather.entries := halt.entries
        rw [hg, State.issue_free]
        simp [hent]
      emissions := by
        intro e he
        rw [State.issue_emq, List.mem_append] at he
        rcases he with he | he
        · exact h.work.emissions e he
        · obtain rfl := List.mem_singleton.1 he
          exact ⟨hp, hsize.1, hsize.2, h.work.slot _ _ hg, ((Member.inRange_iff _ _).1 (hl.range _ hmem)).1⟩
      entries := fun e he _ => by rw [State.issue_emq]; exact List.mem_append_left _ he
      slot := fun _ _ => h.work.slot _ _ hg
      lawful := fun x hx => by
        obtain rfl := Option.some.inj hx
        exact (Gather.lawful_iff (g := d.gather.issue d.cells d.member) ha).2 (halt.lawful hl)
      portOn := fun x hx => by
        obtain rfl := Option.some.inj hx
        exact h.work.enabled d.slot d.gather hg
      key := fun x hx => by
        obtain rfl := Option.some.inj hx
        exact h.work.key_unique hg rfl rfl
      queued := fun x hx _ m' hm' hpos => by
        obtain rfl := Option.some.inj hx
        have hnodup : (d.gather.issue d.cells d.member).entries.Nodup := halt.entries ▸ hl.entries
        rcases (halt.mem_roster hl.entries m').1 hm' with rfl | ⟨hm, hne⟩
        · refine ⟨s.emissionOf p d, by rw [State.issue_emq]; simp, rfl, rfl, State.validMember_iff.2 ?_⟩
          have hgen : ((s.issue p d).slot d.slot).generation = (s.slot d.slot).generation := by rw [hself]
          exact ⟨hrecord, hgen, ha, hport, rfl, Gather.member?_of_mem hnodup hm', rfl, rfl⟩
        · obtain ⟨e, he, hes, hee, hv⟩ := h.work.queued _ _ hg ha m' hm hpos
          obtain ⟨-, hgen, -, hvport, hvtag, -, hvtoken, hvcells⟩ := State.validMember_iff.1 hv
          refine ⟨e, by rw [State.issue_emq]; exact List.mem_append_left _ he, hes, hee, State.validMember_iff.2 ?_⟩
          rw [hes] at hgen ⊢
          rw [hee]
          exact ⟨hrecord, (congrArg Slot.generation hself).trans hgen, ha, hvport, hvtag,
            Gather.member?_of_mem hnodup hm', hvtoken, hvcells⟩ }
  · rw [hself, State.slot_of_gather? hg]
    exact .stands _ _ _ ⟨rfl, rfl, rfl, fun hx => absurd ha hx⟩

theorem State.Sound.setBlocked (h : s.Sound n) (p : Nat) (b : Bool) :
    s.Leads ends n (s.setPort p { s.port p with blocked := b }) :=
  h.setPort ((h.formed.port p).drawState rfl (h.formed.port p).outstanding (h.formed.port p).queues) id rfl rfl

theorem State.Sound.handTo (h : s.Sound n) (hp : p < 48) : s.Leads ends n (s.handTo p) := by
  have hmove : s.Leads ends n { s with pointer := p } := h.apart { h.formed with pointer := hp } rfl rfl rfl rfl
  exact hmove.trans (hmove.sound.setBlocked p false)

/-- A draw pass (R128 to R134). -/
theorem State.Sound.drawPass (h : s.Sound n) (hp : p < 48) : s.Leads ends n (s.drawPass p) :=
  State.drawPass_keeps p (fun t => s.Leads ends n t)
    (fun _ _ ht hd ho hlen => ht.trans (ht.sound.issue hp hd ho hlen))
    (fun _ _ ht _ _ _ => ht.trans (ht.sound.setBlocked p true)) s h.refl

theorem State.Sound.passIf (h : s.Sound n) (call : Bool) (hp : p < 48) : s.Leads ends n (s.passIf call p) := by
  unfold State.passIf
  split
  · exact h.drawPass hp
  · exact h.refl

theorem State.Sound.passes (h : s.Sound n) (called : List Nat) : s.Leads ends n (s.passes called) :=
  State.passes_keeps called (fun t => s.Leads ends n t) (fun _ _ hp _ ht => ht.trans (ht.sound.drawPass hp)) s h.refl

/-- The handing of a freed place (R138, R142). -/
theorem State.Sound.handPlace (h : s.Sound n) (call : Bool) (hp : p < 48) : s.Leads ends n (s.handPlace p call) := by
  unfold State.handPlace
  split
  · exact h.passIf call hp
  · rename_i q hq
    have hq' := roundRobin_lt _ _ (List.mem_of_find?_eq_some hq)
    have hhand := h.handTo (ends := ends) hq'
    have hpass := hhand.trans (hhand.sound.drawPass hq')
    exact hpass.trans (hpass.sound.passIf _ hp)

/-- The serving of a link reset (R144). -/
theorem State.Sound.serveAll (h : s.Sound n) (called : List Nat) : s.Leads ends n (s.serveAll called) :=
  State.serveAll_keeps called (fun t => s.Leads ends n t) (fun _ _ hq _ ht => ht.trans (ht.sound.handTo hq))
    (fun _ _ hq ht => ht.trans (ht.sound.drawPass hq)) s h.refl

theorem State.Leads.offer (h : s.Leads ends n t) (p : Nat) (ev : MeterEvent) (inc : Nat) :
    s.Leads ends n (t.offer p ev inc) := h.trans (h.sound.offer p ev inc)

theorem State.Leads.raise (h : s.Leads ends n t) (src : AttnSource) : s.Leads ends n (t.raise src) :=
  h.trans (h.sound.raise src)

theorem State.Leads.passIf (h : s.Leads ends n t) (call : Bool) (hp : p < 48) : s.Leads ends n (t.passIf call p) :=
  h.trans (h.sound.passIf call hp)

theorem State.Leads.passes (h : s.Leads ends n t) (called : List Nat) : s.Leads ends n (t.passes called) :=
  h.trans (h.sound.passes called)

/-! ## The head of the Emission Queue -/

/-- A stale head entry is dropped: no queued draw waits in it (R137, R139). -/
theorem State.Sound.dropHead (h : s.Sound n) {e : Emission} {rest : List Emission} (hemq : s.emq = e :: rest)
    (hstale : s.validMember e = none) : s.Leads ends n { s with emq := rest } := by
  have hlen := h.formed.emq
  rw [hemq, List.length_cons] at hlen
  refine ⟨{ h.formed with emq := by show rest.length ≤ 256; omega }, { h.work with emissions := ?_, queued := ?_ },
    fun _ => Slot.Lives.refl _⟩
  · exact fun x hx => h.work.emissions x (hemq ▸ List.mem_cons_of_mem _ hx)
  · intro k g hg ha m hm hpos
    obtain ⟨x, hx, hslot, hentry, hv⟩ := h.work.queued k g hg ha m hm hpos
    rw [hemq] at hx
    rcases List.mem_cons.1 hx with rfl | hx
    · rw [hstale] at hv; cases hv
    · exact ⟨x, hx, hslot, hentry, hv⟩

/-- What a valid entry names: its record and its member, with the entry's cells queued (R137). -/
theorem State.Sound.valid (h : s.Sound n) {e : Emission} (he : e ∈ s.emq) {m : Member}
    (hv : s.validMember e = some (g, m)) : s.gather? e.slot = some g ∧ g.stage = .active ∧ g.port = e.port ∧
      m ∈ g.roster ∧ m.entry = e.entry ∧ m.drawQueued = e.cells ∧ 0 < m.drawQueued := by
  obtain ⟨hg, -, ha, hport, -, hm, -, hcells⟩ := State.validMember_iff.1 hv
  obtain ⟨hmem, hentry⟩ := Gather.mem_of_member? hm
  obtain ⟨-, hpos, -⟩ := h.work.emissions e he
  exact ⟨hg, ha, hport, hmem, hentry, hcells, by omega⟩

/-- A valid head entry is taken off the queue, and its member holds a queued draw no longer: it has departed, or a link
reset has taken it back (R28, R138). -/
theorem State.Sound.takeHead (h : s.Sound n) {e : Emission} {rest : List Emission} (hemq : s.emq = e :: rest) {m : Member}
    (hv : s.validMember e = some (g, m)) {m' : Member} (halt : g.Alters m m' g') {r : Nat}
    (hr : r + (m'.drawQueued + m'.drawOut) = m.drawQueued + m.drawOut) (hzero : m'.drawQueued = 0) :
    s.Leads ends n { (s.putGather e.slot g g').giveBack g.port r with emq := rest } := by
  have he : e ∈ s.emq := by rw [hemq]; exact List.mem_cons_self
  obtain ⟨hg, ha, -, -, hentry, -, -⟩ := h.valid he hv
  have hput := h.alter (ends := ends) hg ha halt hr (.inl hzero)
  have hkept : ((s.putGather e.slot g g').giveBack g.port r).emq = e :: rest :=
    (s.putGather_emq e.slot g g').trans hemq
  have hl := h.active hg ha
  have hrecord : ((s.putGather e.slot g g').giveBack g.port r).gather? e.slot = some g' :=
    congrArg Slot.body (State.putGather_cases s e.slot g g' halt.same.1).1
  have hfind : g'.member? e.entry = some m' := by
    rw [← hentry, ← halt.entry]
    exact Gather.member?_of_mem (halt.entries ▸ hl.entries) ((halt.mem_roster hl.entries m').2 (.inl rfl))
  refine hput.trans (hput.sound.dropHead hkept ?_)
  by_contra hvalid
  obtain ⟨⟨x, y⟩, hxy⟩ := Option.ne_none_iff_exists'.1 hvalid
  obtain ⟨hx, -, -, -, -, hy, -, hcells⟩ := State.validMember_iff.1 hxy
  rw [hrecord] at hx
  obtain rfl := Option.some.inj hx
  rw [hfind] at hy
  obtain rfl := Option.some.inj hy
  obtain ⟨-, hpos, -⟩ := h.work.emissions e he
  omega

/-- The change of a record does not read the Emission Queue, the credit or the transmitter. -/
theorem State.putGather_transmit (s : State) (k : Nat) (old new : Gather) (emq : List Emission) (credit : Nat)
    (tx : List Word) (next : TxKind) :
    State.putGather k old new { s with emq := emq, credit := credit, lklTx := tx, nextTx := next } =
      { s.putGather k old new with emq := emq, credit := credit, lklTx := tx, nextTx := next } := by
  unfold State.putGather
  split <;> split <;> rfl

/-- The departure of a valid head entry (R91, R138, R142). -/
theorem State.Sound.depart (h : s.Sound n) {e : Emission} {rest : List Emission} (hemq : s.emq = e :: rest) {m : Member}
    (hv : s.validMember e = some (g, m)) : s.Leads ends n (s.depart e g m) := by
  have he : e ∈ s.emq := by rw [hemq]; exact List.mem_cons_self
  obtain ⟨hg, ha, hport, hmem, -, -, hpos⟩ := h.valid he hv
  obtain ⟨ph, halt⟩ := Gather.departed_alters (s.profileOf e.port) s.timebase (h.active hg ha) ha hmem hpos
  have htaken := h.takeHead (ends := ends) hemq hv halt (r := 0)
    (show 0 + (0 + (m.drawOut + m.drawQueued)) = _ by omega) rfl
  rw [(h.formed.putGather _ _ _).giveBack_zero] at htaken
  have hsent := htaken.trans (htaken.sound.apart (ends := ends) (n' := n) (t := { s.putGather e.slot g
    ((g.setMember (m.departed (s.profileOf e.port) s.timebase)).reevaluate (s.profileOf e.port) m.entry) with
      emq := rest, credit := s.credit - 1, lklTx := e.words, nextTx := .answer })
    { htaken.formed with credit := Nat.le_trans (Nat.sub_le _ _) h.formed.credit } rfl rfl rfl rfl)
  unfold State.depart
  dsimp only
  rw [hemq, List.tail_cons, State.putGather_transmit]
  exact hsent.trans (hsent.sound.handPlace _ (h.work.emissions e he).1)

/-! ## The link reset -/

/-- One entry of the walk, at the head of the queue. -/
theorem State.Sound.walkEntry (h : s.Sound n) {e : Emission} {rest : List Emission} (hemq : s.emq = e :: rest)
    (called : List Nat) : s.Leads ends n { (Machine.walkEntry (s, called) e).1 with emq := rest } := by
  unfold Machine.walkEntry
  split
  · rename_i hstale
    exact h.dropHead hemq hstale
  · rename_i g m hv
    have he : e ∈ s.emq := by rw [hemq]; exact List.mem_cons_self
    obtain ⟨hg, ha, hport, hmem, -, hcells, hpos⟩ := h.valid he hv
    obtain ⟨ph, halt⟩ := Gather.unqueued_alters (s.profileOf e.port) s.timebase (h.active hg ha) ha hmem hpos
    have htaken := h.takeHead (ends := ends) hemq hv halt (r := e.cells)
      (show e.cells + (0 + m.drawOut) = _ by omega) rfl
    rwa [hport] at htaken

theorem State.putGather_withEmq (s : State) (k : Nat) (old new : Gather) (emq : List Emission) :
    State.putGather k old new { s with emq := emq } = { s.putGather k old new with emq := emq } := by
  unfold State.putGather
  split <;> split <;> rfl

/-- The walk does not read the Emission Queue as it goes. -/
theorem walkEntry_emq (s : State) (called : List Nat) (e : Emission) (q : List Emission) :
    Machine.walkEntry ({ s with emq := q }, called) e =
      ({ (Machine.walkEntry (s, called) e).1 with emq := q }, (Machine.walkEntry (s, called) e).2) := by
  have hv : ({ s with emq := q } : State).validMember e = s.validMember e := rfl
  cases hm : s.validMember e with
  | none => simp only [Machine.walkEntry, hv, hm]
  | some gm =>
    have hput := State.putGather_withEmq s e.slot gm.1 ((gm.1.setMember (gm.2.unqueued (s.profileOf e.port)
      s.timebase)).reevaluate (s.profileOf e.port) gm.2.entry) q
    simp only [Machine.walkEntry, hv, hm]
    exact congrArg (fun u => (State.giveBack e.port e.cells u, e.port :: called)) hput

/-- The walk of the entries `q`, each dropped as it is walked. -/
theorem State.Sound.walkAll : ∀ (q : List Emission) (s : State) (called : List Nat), s.Sound n → s.emq = q →
    s.Leads ends n { (q.foldl Machine.walkEntry (s, called)).1 with emq := [] } := by
  intro q
  induction q with
  | nil =>
    intro s called h hemq
    exact h.apart { h.formed with emq := Nat.zero_le _ } rfl rfl hemq.symm rfl
  | cons e q ih =>
    intro s called h hemq
    have hstep := h.walkEntry (ends := ends) hemq called
    have hrest := ih _ (Machine.walkEntry (s, called) e).2 hstep.sound rfl
    refine hstep.trans ?_
    have key : ∀ (l : List Emission) (u : State) (c : List Nat) (x : List Emission),
        ({ (l.foldl Machine.walkEntry ({ u with emq := x }, c)).1 with emq := [] } : State) =
          { (l.foldl Machine.walkEntry (u, c)).1 with emq := [] } := by
      intro l
      induction l with
      | nil => exact fun _ _ _ => rfl
      | cons y l ihl =>
        intro u c x
        rw [List.foldl_cons, List.foldl_cons, walkEntry_emq]
        exact ihl _ _ x
    rw [key] at hrest
    exact hrest

/-- The link reset (R27, R28, R144). -/
theorem State.Sound.linkReset (h : s.Sound n) : s.Leads ends n s.linkReset := by
  have hwalk : s.Leads ends n s.walk.1 := State.Sound.walkAll s.emq s [] h rfl
  have hserve := hwalk.trans (hwalk.sound.serveAll (ends := ends) s.walk.2)
  have hform := hserve.formed
  have hempty := hserve.trans (hserve.sound.apart (ends := ends) (n' := n)
    (t := { s.walk.1.serveAll s.walk.2 with queryFifo := [], answerFifo := [], credit := 0, nextTx := .answer })
    { hform with queryFifo := Nat.zero_le _, answerFifo := Nat.zero_le _, credit := Nat.zero_le _ } rfl rfl rfl rfl)
  exact hempty.trans (hempty.sound.raise .linkReset)

/-! ## Endings and retirements -/

/-- An ACTIVE record ends with an outcome (R46). -/
theorem State.Sound.endGather (h : s.Sound n) (hg : s.gather? k = some g) (ha : g.stage = .active) (o : Ending) :
    s.Leads true n (s.endGather k g o).1 := by
  have hend : s.Leads true n (if (s.profileOf g.port).lingerTime.toNat = 0 then (s.leaveActive k g).freeSlot k g
      else (s.leaveActive k g).setGather k { g.left with
        stage := .linger o
        lingerAt := some (after (s.leaveActive k g).timebase (s.profileOf g.port).lingerTime.toNat) }) := by
    split
    · exact h.free hg ha
    · exact h.linger hg ha o _
  exact hend.trans (hend.sound.offer _ _ _)

/-- A record goes FREE with no outcome (R65). -/
theorem State.Sound.retire (h : s.Sound n) (k : Nat) : s.Leads true n (s.retire k).1 := by
  unfold State.retire
  split
  · exact h.refl
  · rename_i g hg
    split
    · rename_i ha; exact h.free hg ha
    · rename_i o hl; exact h.freeLingering hg (by rw [hl]; nofun)

theorem State.retire_gather? (s : State) (k : Nat) : (s.retire k).1.gather? k = none := by
  unfold State.retire
  split
  · assumption
  · split
    · exact congrArg Slot.body (State.freeSlot_entries _ k _).1
    · exact congrArg Slot.body (State.freeSlot_entries _ k _).1

/-- A record after the change was there before it, with the same key. -/
theorem State.Leads.record (h : s.Leads ends n t) {x : Gather} (hx : t.gather? k = some x) :
    ∃ g, s.gather? k = some g ∧ g.Continues x := by
  have hl := h.lives k
  rw [State.gather?] at hx ⊢
  generalize s.slot k = a at hl
  generalize t.slot k = b at hl hx
  cases hl with
  | vacant => cases hx
  | stands n g g' hg => exact ⟨g, rfl, Option.some.inj hx ▸ hg⟩
  | freed => cases hx

/-- A FREE slot stays FREE. -/
theorem State.Leads.vacant (h : s.Leads ends n t) (hk : s.gather? k = none) : t.gather? k = none := by
  by_contra hne
  obtain ⟨x, hx⟩ := Option.ne_none_iff_exists'.1 hne
  obtain ⟨g, hg, -⟩ := h.record hx
  rw [hk] at hg
  cases hg

/-- One retirement of several: the record of slot `k`, where it holds one, goes FREE (R66, R67). -/
def retireStep (a : State × List Nat) (k : Nat) : State × List Nat :=
  match a.1.gather? k with
  | none => a
  | some g => ((a.1.retire k).1, if (a.1.retire k).2 then g.port :: a.2 else a.2)

theorem State.retireAll_eq (s : State) (ks : List Nat) : s.retireAll ks = ks.foldl retireStep (s, []) := rfl

theorem State.Sound.retireStep {a : State × List Nat} (h : a.1.Sound n) (k : Nat) :
    a.1.Leads true n (Machine.retireStep a k).1 ∧ (Machine.retireStep a k).1.gather? k = none := by
  unfold Machine.retireStep
  split
  · rename_i hk; exact ⟨h.refl, hk⟩
  · exact ⟨h.retire k, State.retire_gather? a.1 k⟩

/-- The retirement of the records of several slots: all of them are FREE after it (R66, R67). -/
theorem State.Sound.retireAll (h : s.Sound n) (ks : List Nat) :
    s.Leads true n (s.retireAll ks).1 ∧ ∀ k ∈ ks, (s.retireAll ks).1.gather? k = none := by
  have key : ∀ (ks : List Nat) (a : State × List Nat), a.1.Sound n →
      a.1.Leads true n (ks.foldl Machine.retireStep a).1 ∧
        ∀ k ∈ ks, (ks.foldl Machine.retireStep a).1.gather? k = none := by
    intro ks
    induction ks with
    | nil => exact fun a ha => ⟨ha.refl, nofun⟩
    | cons k ks ih =>
      intro a ha
      obtain ⟨hstep, hk⟩ := ha.retireStep k
      obtain ⟨hrest, hks⟩ := ih _ hstep.sound
      refine ⟨hstep.trans hrest, fun j hj => ?_⟩
      rcases List.mem_cons.1 hj with rfl | hj
      · exact hrest.vacant hk
      · exact hks j hj
  rw [State.retireAll_eq]
  exact key ks (s, []) h

end

end Sys2Proof.Machine

/-! The queries: each leads from a sound state to a sound one, and OPEN alone makes a FREE slot hold a record. -/

namespace Sys2Proof.Machine

section
variable {ends : Bool} {n n' k p : Nat} {s t u : State} {g g' : Gather} {m : Member}

/-! ## Answers and faults -/

theorem State.Sound.appendAnswer (h : s.Sound n) (a : Answer) : s.Leads ends (n + 1) (s.appendAnswer a) :=
  h.apart { h.formed with
    answerFifo := by
      have := h.formed.answerFifo
      show (s.answerFifo ++ [a]).length ≤ n + 1
      simpa using this } rfl rfl rfl rfl

theorem State.Leads.appendAnswer (h : s.Leads ends n t) (a : Answer) : s.Leads ends (n + 1) (t.appendAnswer a) :=
  h.trans (h.sound.appendAnswer a)

theorem State.Sound.offerTo (h : s.Sound n) (sel : BitVec 6) (ev : MeterEvent) (inc : Nat) :
    s.Leads ends n (s.offerTo sel ev inc) :=
  h.apart (h.formed.offerTo sel ev inc) (s.offerTo_slots ..) (s.offerTo_free ..) (s.offerTo_emq ..) (s.offerTo_ports ..)

/-- A fault counts itself, uses a free value and answers (R19). -/
theorem State.Sound.fault (h : s.Sound n) (q : List Word) (status : Status) (parameter : BitVec 16) :
    s.Leads ends (n + 1) (s.fault q status parameter) := by
  have hcount : s.Leads ends n (s.countFault q status) := by
    unfold State.countFault
    split
    · exact h.offerTo _ _ _
    · exact h.offerTo _ _ _
    · exact h.offer _ _ _
  have hindex := hcount.trans (hcount.sound.apart (ends := ends) (n' := n)
    (t := { s.countFault q status with freeIndex := s.freeIndex + if isListing q then 1 else 0 })
    { hcount.formed with } rfl rfl rfl rfl)
  exact hindex.appendAnswer _

theorem State.Sound.popQuery (h : s.Sound n) : s.Leads ends n s.popQuery :=
  h.apart { h.formed with
    queryFifo := by
      have := h.formed.queryFifo
      show s.queryFifo.tail.length ≤ 64
      rw [List.length_tail]; omega } rfl rfl rfl rfl

theorem State.accepts_of_linkFault {q : List Word} (h : s.linkFault q = none) : s.Accepts q := by
  unfold State.linkFault at h
  split at h
  · cases h
  · split at h
    · cases h
    · split at h
      · cases h
      · rename_i hl hp he
        exact ⟨by simpa using hl, Nat.lt_of_not_le hp, by simpa using he⟩

/-- Everything a query command can do: nothing, the answer of a fault to the query taken, or what the owner does with the
query taken; a query is taken where the Answer FIFO has room (R17, R19). -/
theorem State.takeQuery_cases (s : State) (f : BitVec 4 → Bool) (owner : List Word → State → State) :
    s.takeQuery f owner = s ∨ s.answerFifo.length < 64 ∧ ∃ q, f (kindOf q) = true ∧
      ((∃ status parameter, s.takeQuery f owner = s.popQuery.fault q status parameter) ∨
        s.Accepts q ∧ s.takeQuery f owner = owner q s.popQuery) := by
  unfold State.takeQuery
  split
  · exact .inl rfl
  · rename_i q hq
    have hroom : s.answerFifo.length < 64 := by
      unfold State.takeable at hq
      split at hq
      · rename_i hc; exact of_decide_eq_true ((Bool.and_eq_true _ _).mp hc).2
      · cases hq
    split
    · rename_i hf
      refine .inr ⟨hroom, q, hf, ?_⟩
      split
      · exact .inl ⟨_, _, rfl⟩
      · rename_i hl; exact .inr ⟨State.accepts_of_linkFault hl, rfl⟩
    · exact .inl rfl

/-- The Answer FIFO's room makes room for the answer. -/
theorem State.Sound.room (h : s.Sound 64) (hroom : s.answerFifo.length < 64) : s.Sound 63 :=
  ⟨{ h.formed with answerFifo := Nat.le_of_lt_succ hroom }, h.work⟩

/-- A query command leads on where its owner does. -/
theorem State.Sound.takeQuery (h : s.Sound 64) (f : BitVec 4 → Bool) {owner : List Word → State → State}
    (how : ∀ q (u : State), u.Sound 63 → u.Accepts q → u.Leads ends 64 (owner q u)) :
    s.Leads ends 64 (s.takeQuery f owner) := by
  rcases State.takeQuery_cases s f owner with heq | ⟨hroom, q, -, ⟨status, parameter, heq⟩ | ⟨hq, heq⟩⟩
  · rw [heq]; exact h.refl
  · have hpop := (h.room hroom).popQuery (ends := ends)
    rw [heq]; exact hpop.trans (hpop.sound.fault _ _ _)
  · have hpop := (h.room hroom).popQuery (ends := ends)
    rw [heq]; exact hpop.trans (how q _ hpop.sound hq)

theorem State.Sound.lookup (h : s.Sound n) {q : List Word} (hl : s.lookupGather (portOf q) (tagOf q) = some (k, g)) :
    s.gather? k = some g ∧ g.port < 48 := by
  obtain ⟨hg, -⟩ := State.lookupGather_some hl
  refine ⟨hg, ?_⟩
  have := h.work.lawful k g hg
  simp only [Gather.lawful, Bool.and_eq_true, decide_eq_true_eq] at this
  obtain ⟨⟨⟨⟨⟨⟨⟨⟨⟨hport, -⟩, -⟩, -⟩, -⟩, -⟩, -⟩, -⟩, -⟩, -⟩ := this
  exact hport

/-! ## Takes from the pool -/

theorem State.Formed.take (h : s.Formed n) : s.take.2.Formed n := by
  unfold State.take
  split
  · exact h.raiseIf _ _
  · rename_i e f hf
    exact State.Formed.raiseIf (s := { s with free := f }) { h with free := takeFree_wf _ _ _ h.free hf } _ _

/-- A free entry is one of the pool and on no roster (R69). -/
theorem State.Sound.free_fresh (h : s.Sound n) (hg : s.gather? k = some g) {e : Nat} (he : e ∈ freeEntries s.free) :
    e < 65536 ∧ e ∉ g.entries := by
  have hpool := h.work.pool
  refine ⟨List.mem_range.1 (hpool.mem_iff.1 (List.mem_append_left _ he)), fun hin => ?_⟩
  have hnodup := (hpool.nodup_iff.2 List.nodup_range)
  have hheld : e ∈ s.heldEntries :=
    List.mem_flatMap.2 ⟨(k, g), (State.mem_records h.formed.slots k g).2 hg, hin⟩
  exact (List.nodup_append.1 hnodup).2.2 e he e hheld rfl

/-- A refused take changes the attention summary alone; a take and the addition of the entry taken lead on (R51, R70, R71,
R75). -/
theorem State.Sound.join (h : s.Sound n) (hg : s.gather? k = some g) (ha : g.stage = .active) (pf : Profile) {tok : Token}
    (announced : Bool) {expected : Option Nat} (htoken : g.byToken tok = none) (hlen : g.roster.length < 256)
    (hexpected : ∀ x, expected = some x → 0 < x ∧ x ≤ 65535) :
    (s.take.1 = none ∧ s.Leads ends n s.take.2) ∨ ∃ e, s.take.1 = some e ∧
      s.Leads ends n (s.take.2.putGather k g (g.addMember pf e tok announced expected)) ∧
      (g.addMember pf e tok announced expected).stage = .active ∧
      (g.addMember pf e tok announced expected).port = g.port ∧
      g.added e tok announced expected ∈ (g.addMember pf e tok announced expected).roster := by
  rcases State.take_cases s with ⟨-, htake⟩ | ⟨e, rest, f, hfree, hrest, htake⟩
  · rw [htake]
    exact .inl ⟨rfl, h.apart (h.formed.raiseIf _ _) rfl rfl rfl rfl⟩
  · have hform := h.formed.take
    rw [htake] at hform ⊢
    refine .inr ⟨e, rfl, ?_⟩
    obtain ⟨hsmall, hfresh⟩ := h.free_fresh hg (e := e) (by rw [hfree]; exact List.mem_cons_self)
    obtain ⟨heq, hl⟩ := (h.active hg ha).addMember ha pf announced hsmall hfresh htoken hlen hexpected
    have hpool : (freeEntries f ++ (g.addMember pf e tok announced expected).entries).Perm
        (freeEntries s.free ++ g.entries) := by
      rw [hrest, hfree, heq]
      have hent : Gather.entries { g with
          roster := g.roster ++ [g.added e tok announced expected]
          ring := if g.allowance = 0 then g.ring ++ [e] else g.ring } = g.entries ++ [e] := by
        simp [Gather.entries, Gather.added, Member.taken]
      rw [hent, ← List.append_assoc]
      exact List.perm_append_comm
    have howed : (g.addMember pf e tok announced expected).owed + 0 = g.owed := by
      rw [heq]; simp [Gather.owed, Gather.added, Member.taken]
    have hstage : (g.addMember pf e tok announced expected).stage = .active := by rw [heq]; exact ha
    have hport : (g.addMember pf e tok announced expected).port = g.port := by rw [heq]
    have hput := h.put (ends := ends) hform rfl rfl rfl hg ha hstage hport (by rw [heq]) (by rw [heq]) hl hpool howed ?_
    · rw [State.Formed.giveBack_zero (hform.putGather _ _ _)] at hput
      exact ⟨hput, hstage, hport, by rw [heq]; exact List.mem_append_right _ (List.mem_singleton_self _)⟩
    · intro m' hm' hpos
      rw [heq] at hm'
      rcases List.mem_append.1 hm' with hm' | hm'
      · exact ⟨m', hm', rfl, rfl, rfl⟩
      · obtain rfl := List.mem_singleton.1 hm'
        exact absurd hpos (Nat.lt_irrefl _)

/-- After the change of a record the slot holds the new one. -/
theorem State.gather?_putGather (s : State) (hport : g'.port = g.port) : (s.putGather k g g').gather? k = some g' :=
  congrArg Slot.body (State.putGather_cases s k g g' hport).1

/-! ## Listed entries -/

/-- The listed entries of a query have expected cells of 16 bits. -/
theorem listedOf_range {q : List Word} {x : Token × Nat} (hx : x ∈ listedOf q) : x.2 ≤ 65535 := by
  obtain ⟨j, -, rfl⟩ := List.mem_map.1 hx
  exact Nat.le_of_lt_succ (field (wordAt q (3 + 2 * j)) 0 16).isLt

/-- One listed entry of an ACTIVE record (R51). -/
theorem State.Sound.addListed {a : Adding} (h : a.state.Sound n) (hg : a.state.gather? k = some g)
    (ha : g.stage = .active) {x : Token × Nat} (hx : x.2 ≤ 65535) :
    a.state.Leads ends n (Machine.addListed k a x).state ∧
      ∃ g', (Machine.addListed k a x).state.gather? k = some g' ∧ g'.stage = .active := by
  unfold Machine.addListed
  rw [hg]
  dsimp only
  split
  · exact ⟨h.refl, g, hg, ha⟩
  · rename_i htoken
    have htoken' : g.byToken x.1 = none := by simpa using htoken
    split
    · rename_i hlen
      have hexp : ∀ y, (if x.2 = 0 then none else some x.2) = some y → 0 < y ∧ y ≤ 65535 := by
        intro y hy
        split at hy
        · cases hy
        · obtain rfl := Option.some.inj hy; omega
      rcases h.join (ends := ends) hg ha (a.state.take.2.profileOf g.port) true htoken' hlen hexp with
        ⟨hnone, hlead⟩ | ⟨e, hsome, hlead, hstage, hport, -⟩
      · rw [show a.state.take = (none, a.state.take.2) from Prod.ext hnone rfl]
        refine ⟨hlead, g, ?_, ha⟩
        obtain ⟨-, htake⟩ | ⟨e, rest, f, -, -, htake⟩ := State.take_cases a.state
        · rw [htake]; exact hg
        · rw [htake] at hnone; cases hnone
      · rw [show a.state.take = (some e, a.state.take.2) from Prod.ext hsome rfl]
        exact ⟨hlead, _, State.gather?_putGather _ hport, hstage⟩
    · split
      · exact ⟨h.apart (h.formed.raiseIf _ _) rfl rfl rfl rfl, g, hg, ha⟩
      · exact ⟨h.refl, g, hg, ha⟩

/-- The listed entries of an ACTIVE record (R51, R55). -/
theorem State.Sound.addAll (h : s.Sound n) (hg : s.gather? k = some g) (ha : g.stage = .active)
    {listed : List (Token × Nat)} (hl : ∀ x ∈ listed, x.2 ≤ 65535) : s.Leads ends n (s.addAll k listed).state := by
  have key : ∀ (l : List (Token × Nat)) (a : Adding) (g : Gather), a.state.Sound n → a.state.gather? k = some g →
      g.stage = .active → (∀ x ∈ l, x.2 ≤ 65535) → a.state.Leads ends n (l.foldl (Machine.addListed k) a).state := by
    intro l
    induction l with
    | nil => exact fun a _ hs _ _ _ => hs.refl
    | cons x l ih =>
      intro a g hs hg ha hl
      obtain ⟨hlead, g', hg', ha'⟩ := hs.addListed (ends := ends) hg ha (hl x List.mem_cons_self)
      exact hlead.trans (ih _ g' hlead.sound hg' ha' fun y hy => hl y (List.mem_cons_of_mem _ hy))
  exact key listed ⟨s, false, 0⟩ g h hg ha hl

/-! ## EXTEND, RECLASS and CLOSE -/

theorem Gather.LawfulActive.rearmIdle (hl : g.LawfulActive) (pf : Profile) (now : Time) :
    (g.rearmIdle pf now).LawfulActive := { hl with }

theorem Gather.LawfulActive.extended (hl : g.LawfulActive) {count : Nat} (hc : count ≤ 4095) :
    ({ g with announced := extendedCount g.announced count }).LawfulActive :=
  { hl with
    announced := by
      have := hl.announced
      show extendedCount g.announced count ≤ 4095
      unfold extendedCount
      split <;> omega }

theorem Gather.LawfulActive.reclass (hl : g.LawfulActive) {v : Nat} (hv : v ≤ 7) : (g.reclass v).LawfulActive := by
  unfold Gather.reclass
  split
  · exact { hl with }
  · rename_i h0
    exact { hl with clsPos := Nat.pos_of_ne_zero h0, cls := hv }

/-- A record's fields changed but for its key, its allowance, its members, its place and its stage. -/
theorem State.Sound.setGather (h : s.Sound n) (hg : s.gather? k = some g) (ha : g.stage = .active)
    (ha' : g'.stage = .active) (hport : g'.port = g.port) (htag : g'.tag = g.tag) (hallow : g'.allowance = g.allowance)
    (hroster : g'.roster = g.roster) (hqueued : g'.queued = g.queued) (hcls : g'.cls = g.cls) (hl : g'.LawfulActive) :
    s.Leads ends n (s.setGather k g') := by
  rw [← State.putGather_eq_setGather s k hqueued hcls]
  exact h.recast hg ha ha' hport htag hallow hroster hl

/-- EXTEND (R55). -/
theorem State.Sound.extendGather (h : s.Sound 63) (q : List Word) : s.Leads ends 64 (s.extendGather q) := by
  unfold State.extendGather
  split
  · exact h.fault _ _ _
  · rename_i k g hl
    obtain ⟨hg, hport⟩ := h.lookup hl
    split
    · exact h.fault _ _ _
    · rename_i ha
      have hcount : announcedOf q ≤ 4095 := Nat.le_of_lt_succ (field (wordAt q 1) 4 12).isLt
      have hset := h.setGather (ends := ends) hg ha (g' := ({ g with
        announced := extendedCount g.announced (announcedOf q) }).rearmIdle (s.profileOf g.port) s.timebase) ha rfl rfl rfl
        rfl rfl rfl (((h.active hg ha).extended hcount).rearmIdle _ _)
      have hrec := (State.gather?_setGather s k k (({ g with
        announced := extendedCount g.announced (announcedOf q) }).rearmIdle (s.profileOf g.port) s.timebase)).trans
        (if_pos rfl)
      have hadd := hset.trans (hset.sound.addAll (ends := ends) hrec ha (listed := listedOf q) fun _ => listedOf_range)
      exact (hadd.passIf _ hport).appendAnswer _

/-- RECLASS (R56, R57). -/
theorem State.Sound.reclassGather (h : s.Sound 63) (q : List Word) : s.Leads ends 64 (s.reclassGather q) := by
  unfold State.reclassGather
  split
  · exact h.fault _ _ _
  · rename_i k g hl
    obtain ⟨hg, hport⟩ := h.lookup hl
    split
    · exact h.fault _ _ _
    · rename_i ha
      have hsame : (g.reclass (classOf q)).stage = g.stage ∧ (g.reclass (classOf q)).port = g.port ∧
          (g.reclass (classOf q)).tag = g.tag ∧ (g.reclass (classOf q)).allowance = g.allowance ∧
          (g.reclass (classOf q)).roster = g.roster := by
        unfold Gather.reclass
        split <;> exact ⟨rfl, rfl, rfl, rfl, rfl⟩
      obtain ⟨hstage, hp, ht, hallow, hroster⟩ := hsame
      have hput := h.recast (ends := ends) hg ha
        (g' := (g.reclass (classOf q)).rearmIdle (s.profileOf g.port) s.timebase) (hstage.trans ha) hp ht hallow hroster
        (((h.active hg ha).reclass (Nat.le_of_lt_succ (field (wordAt q 0) 25 3).isLt)).rearmIdle _ _)
      exact (hput.passIf _ hport).appendAnswer _

/-- CLOSE (R58). -/
theorem State.Sound.closeGather (h : s.Sound 63) (q : List Word) : s.Leads true 64 (s.closeGather q) := by
  unfold State.closeGather
  split
  · exact h.fault _ _ _
  · rename_i k g hl
    obtain ⟨hg, hport⟩ := h.lookup hl
    split
    · exact h.appendAnswer _
    · rename_i ha
      exact ((h.endGather hg ha .closed).passIf _ hport).appendAnswer _

/-! ## ARRIVE -/

theorem State.Leads.answerTable (h : s.Leads ends n t) (q : List Word) (v : Verdict) (b : Basis) (parameter : Nat) :
    s.Leads ends (n + 1) (t.answerTable q v b parameter) :=
  ((h.offer _ _ _).offer _ _ _).appendAnswer _

/-- An arrival of a member (R85). -/
theorem State.Sound.arriveMember (h : s.Sound n) (hg : s.gather? k = some g) (ha : g.stage = .active) (q : List Word)
    (hm : m ∈ g.roster) (call : Bool) : s.Leads true (n + 1) (s.arriveMember q k g m call) := by
  have hl := h.active hg ha
  obtain ⟨m', halt, hreturned, hqueued⟩ := Gather.handle_sound (s.profileOf g.port) s.timebase (s.port g.port).mode
    (cellsOf (bytesOf q)) (lastOf q) hl ha hm
  have halt' := halt.rearmIdle (s.profileOf g.port) s.timebase
  have hput := h.alter (ends := true) hg ha halt' hreturned hqueued
  unfold State.arriveMember
  refine State.Leads.appendAnswer (State.Leads.passIf (State.Leads.offer ?_ _ _ _) _ hl.port) _
  split
  · have hg' := State.gather?_putGather (k := k) s halt'.same.1
    exact hput.trans (hput.sound.endGather hg' (halt'.same.2.2.2.1.trans ha) .complete)
  · exact hput

/-- An arrival that is not joined (R76). -/
theorem State.Sound.arriveUnjoined (h : s.Sound n) (hg : s.gather? k = some g) (ha : g.stage = .active) (q : List Word) :
    s.Leads ends (n + 1) (s.arriveUnjoined q k g) :=
  (h.setGather hg ha (g' := g.rearmIdle (s.profileOf g.port) s.timebase) ha rfl rfl rfl rfl rfl rfl
    ((h.active hg ha).rearmIdle _ _)).answerTable _ _ _ _

/-- An arrival for an ACTIVE record (R72, R75, R76). -/
theorem State.Sound.arriveRoster (h : s.Sound n) (hg : s.gather? k = some g) (ha : g.stage = .active) (q : List Word) :
    s.Leads true (n + 1) (s.arriveRoster q k g) := by
  unfold State.arriveRoster
  split
  · rename_i m hm
    exact h.arriveMember hg ha q (Gather.mem_of_byToken hm).1 false
  · rename_i htoken
    split
    · rename_i hlen
      rcases h.join (ends := true) hg ha (s.take.2.profileOf g.port) false htoken hlen (expected := none) nofun with
        ⟨hnone, hlead⟩ | ⟨e, hsome, hlead, hstage, hport, hmem⟩
      · rw [show s.take = (none, s.take.2) from Prod.ext hnone rfl]
        have hg' : s.take.2.gather? k = some g := by
          obtain ⟨-, htake⟩ | ⟨e, rest, f, -, -, htake⟩ := State.take_cases s <;> rw [htake] <;> exact hg
        exact hlead.trans (hlead.sound.arriveUnjoined hg' ha q)
      · rw [show s.take = (some e, s.take.2) from Prod.ext hsome rfl]
        dsimp only
        split
        · rename_i hnone
          exact absurd (List.find?_eq_none.1 hnone _ hmem) (by simp [Gather.added, Member.taken])
        · rename_i m hm
          exact hlead.trans (hlead.sound.arriveMember (State.gather?_putGather _ hport) hstage q
            (Gather.mem_of_byToken hm).1 _)
    · split
      · have hrefuse : s.Leads true n s.refuseTake := h.apart (h.formed.raiseIf _ _) rfl rfl rfl rfl
        exact hrefuse.trans (hrefuse.sound.arriveUnjoined hg ha q)
      · exact h.arriveUnjoined hg ha q

/-- ARRIVE (R30). -/
theorem State.Sound.classify (h : s.Sound n) (q : List Word) : s.Leads true (n + 1) (s.classify q) := by
  unfold State.classify
  split
  · exact (h.refl.offer _ _ _).appendAnswer _
  · split
    · exact h.refl.answerTable _ _ _ _
    · rename_i k g hl
      obtain ⟨hg, -⟩ := h.lookup hl
      split
      · exact h.refl.answerTable _ _ _ _
      · rename_i ha; exact h.arriveRoster hg ha q

/-! ## OPEN -/

/-- What an OPEN may make of a slot: FREE before it or freed by it, the slot then holds the new record. -/
def Slot.Opens (x y : Slot) : Prop := ∃ n g, Slot.Lives true x ⟨n, none⟩ ∧ y = ⟨n, some g⟩

/-- `t` is sound, and each slot of `t` is what may become of the slot of `s`, or holds a new record. -/
structure State.LeadsOpening (n : Nat) (s t : State) : Prop where
  formed : t.Formed n
  work : t.Work
  lives : ∀ k, (s.slot k).Lives true (t.slot k) ∨ (s.slot k).Opens (t.slot k)

theorem State.Leads.opening (h : s.Leads true n t) : s.LeadsOpening n t := ⟨h.formed, h.work, fun k => .inl (h.lives k)⟩

theorem State.Leads.thenOpening (h : s.Leads true n t) (h' : t.LeadsOpening n' u) : s.LeadsOpening n' u :=
  ⟨h'.formed, h'.work, fun k => (h'.lives k).imp (h.lives k).trans fun ⟨m, g, hl, hu⟩ => ⟨m, g, (h.lives k).trans hl, hu⟩⟩

/-- A key that a lookup does not find is no record's (R35). -/
theorem State.no_key_of_lookup {p : Nat} {tag : Tag} (h : s.lookupGather p tag = none) (j : Nat) (x : Gather)
    (hx : s.gather? j = some x) : ¬(x.port = p ∧ x.tag = tag) := by
  rintro ⟨hp, ht⟩
  have hkey : s.hasKey p tag j = true := by simp [State.hasKey, hx, hp, ht]
  unfold State.lookupGather at h
  split at h
  · rename_i hnone
    exact absurd (List.find?_eq_none.1 hnone j (State.mem_keys_of_gather? hx)) (by simp [hkey])
  · rename_i i hi
    have hfound := List.find?_some hi
    unfold State.hasKey at hfound
    cases hg : s.gather? i with
    | none => simp [hg] at hfound
    | some y => simp [hg] at h

theorem State.lowestFree_some (h : s.lowestFree = some k) : k < 8192 ∧ s.gather? k = none := by
  have hm := List.mem_of_find?_eq_some h
  have hf := List.find?_some h
  rw [List.mem_range'_1] at hm
  exact ⟨by simpa [Config.slots] using hm.2, by simpa using hf⟩

theorem Profile.Legal.openClass_range {pf : Profile} (h : pf.Legal) {v : Nat} (hv : v ≤ 7) :
    1 ≤ openClass pf v ∧ openClass pf v ≤ 7 := by
  have hpos : 0 < pf.defaultClass.toNat := Nat.pos_of_ne_zero fun h0 => h.defaultClass (BitVec.eq_of_toNat_eq h0)
  have hlt := pf.defaultClass.isLt
  unfold openClass
  split <;> omega

/-- The record that an OPEN sets is lawful (R50, R52, R53). -/
theorem State.newGather_lawful {q : List Word} (hp : portOf q < 48) (hlegal : (s.profileOf (portOf q)).Legal) :
    (s.newGather q).LawfulActive := by
  have hcls := hlegal.openClass_range (Nat.le_of_lt_succ (field (wordAt q 0) 25 3).isLt : classOf q ≤ 7)
  exact {
    port := hp
    clsPos := hcls.1
    cls := hcls.2
    allowance := Nat.le_trans (Nat.min_le_left _ _) (Nat.le_of_lt_succ (BitVec.isLt _))
    announced := Nat.le_of_lt_succ (field (wordAt q 1) 4 12).isLt
    length := Nat.zero_le _
    entries := List.nodup_nil
    tokens := List.nodup_nil
    range := nofun
    ringNodup := List.nodup_nil
    ring := fun e => ⟨nofun, fun ⟨_, hm, _⟩ => nomatch hm⟩
    phases := nofun
    linger := rfl }

/-- A FREE slot takes the new record (R50). -/
theorem State.Sound.openSlot (h : s.Sound n) (hk : k < 8192) (hfree : s.gather? k = none) {q : List Word}
    (hp : portOf q < 48) (hon : (s.port (portOf q)).enabled = true)
    (hkey : ∀ j x, s.gather? j = some x → ¬(x.port = portOf q ∧ x.tag = tagOf q)) :
    (s.setGather k (s.newGather q)).Sound n := by
  have hl := State.newGather_lawful hp (h.formed.legal _)
  have hnot : ∀ p, p < 48 → ∀ c, k ∉ (s.port p).queue c := fun p hp c hin => by
    obtain ⟨x, hx, -⟩ := ((h.work.queues p hp c).2 k).1 hin
    rw [hfree] at hx; cases hx
  refine ⟨h.formed.setGather k _, h.work.rewrite h.formed.slots (k := k) (new := some (s.newGather q)) ?_⟩
  exact {
    record := (State.gather?_setGather s k k _).trans (if_pos rfl)
    others := fun j hj => (State.slot_setGather s k j _).trans (if_neg hj)
    slots := (h.formed.setGather k _).slots
    enabled := fun _ => id
    nodup := fun p hp c => (h.work.queues p hp c).1
    queueOthers := fun _ _ _ _ _ => Iff.rfl
    queueSelf := fun p hp c => by
      refine ⟨fun hin => absurd hin (hnot p hp c), ?_⟩
      rintro ⟨x, hx, hq, -⟩
      obtain rfl := Option.some.inj hx
      exact absurd hq (by simp [Gather.queued, State.newGather])
    draws := fun p _ => by
      rw [hfree]
      simp [Gather.owedFor, Gather.owed, State.newGather]
    pool := by rw [hfree]; simp [Gather.entries, State.newGather]
    emissions := h.work.emissions
    entries := fun _ he _ => he
    slot := fun _ _ => hk
    lawful := fun x hx => by
      obtain rfl := Option.some.inj hx
      exact (Gather.lawful_iff rfl).2 hl
    portOn := fun x hx => by obtain rfl := Option.some.inj hx; exact hon
    key := fun x hx j y _ hy => by obtain rfl := Option.some.inj hx; exact hkey j y hy
    queued := fun x hx _ m hm => by obtain rfl := Option.some.inj hx; cases hm }

/-- An OPEN that takes slot `k` (R50 to R53). -/
theorem State.Sound.openAt (h : s.Sound n) (hk : k < 8192) (hfree : s.gather? k = none) {q : List Word}
    (hp : portOf q < 48) (hon : (s.port (portOf q)).enabled = true)
    (hkey : ∀ j x, s.gather? j = some x → ¬(x.port = portOf q ∧ x.tag = tagOf q)) :
    s.LeadsOpening (n + 1) (s.openAt q k) := by
  have hopen := h.openSlot hk hfree hp hon hkey
  have hself := (State.slot_setGather s k k (s.newGather q)).trans (if_pos rfl)
  have hadd := hopen.addAll (ends := false) (congrArg Slot.body hself) rfl (listed := listedOf q)
    fun _ => listedOf_range
  have hlead : (s.setGather k (s.newGather q)).Leads false (n + 1) (s.openAt q k) :=
    ((hadd.offer _ _ _).passIf _ hp).appendAnswer _
  refine ⟨hlead.formed, hlead.work, fun j => ?_⟩
  have hl := hlead.lives j
  by_cases hj : j = k
  · subst hj
    have hs : s.slot j = ⟨(s.slot j).generation, none⟩ := by rw [← hfree]; rfl
    rw [hself] at hl
    rw [hs]
    generalize (s.openAt q j).slot j = y at hl
    cases hl with
    | stands _ _ g' _ => exact .inr ⟨_, g', .vacant _, rfl⟩
    | freed _ _ he => cases he
  · rw [State.slot_setGather, if_neg hj] at hl
    refine .inl ?_
    generalize s.slot j = x at hl
    generalize (s.openAt q k).slot j = y at hl
    cases hl with
    | vacant => exact .vacant _
    | stands _ _ _ hc => exact .stands _ _ _ hc
    | freed _ _ he => cases he

/-- An OPEN of a key that no record has (R49, R50). -/
theorem State.Sound.openFresh (h : s.Sound n) {q : List Word} (hq : s.Accepts q)
    (hkey : ∀ j x, s.gather? j = some x → ¬(x.port = portOf q ∧ x.tag = tagOf q)) :
    s.LeadsOpening (n + 1) (s.openFresh q) := by
  unfold State.openFresh
  split
  · have hrefuse := (h.refl (ends := true)).offer (portOf q) .opensRefused 1 |>.raise .openRefused
    exact (hrefuse.trans (hrefuse.sound.fault _ _ _)).opening
  · rename_i k hk
    obtain ⟨hlt, hfree⟩ := State.lowestFree_some hk
    exact h.openAt hlt hfree hq.2.1 hq.2.2 hkey

/-- OPEN (R49). -/
theorem State.Sound.openGather (h : s.Sound n) {q : List Word} (hq : s.Accepts q) :
    s.LeadsOpening (n + 1) (s.openGather q) := by
  unfold State.openGather
  split
  · rename_i hl
    exact h.openFresh hq (State.no_key_of_lookup hl)
  · rename_i k g hl
    obtain ⟨hg, hport, htag⟩ := State.lookupGather_some hl
    split
    · exact (h.fault _ _ _).opening
    · rename_i o ho
      have hfree := h.freeLingering hg (by rw [ho]; nofun)
      refine hfree.thenOpening (hfree.sound.openFresh hq fun j x hx hkey => ?_)
      obtain ⟨y, hy, hyport, hytag, -⟩ := hfree.record hx
      have hj : j = k := h.work.keys j k y g hy hg (hyport.symm.trans (hkey.1.trans hport.symm))
        (hytag.symm.trans (hkey.2.trans htag.symm))
      have hnone : (s.freeSlot k g).gather? k = none := congrArg Slot.body (State.freeSlot_entries s k g).1
      rw [hj, hnone] at hx
      cases hx

/-- The command OPEN. -/
theorem State.Sound.takeOpen (h : s.Sound 64) (f : BitVec 4 → Bool) :
    s.LeadsOpening 64 (s.takeQuery f State.openGather) := by
  rcases State.takeQuery_cases s f State.openGather with heq | ⟨hroom, q, -, ⟨status, parameter, heq⟩ | ⟨hq, heq⟩⟩
  · rw [heq]; exact h.refl.opening
  · have hpop := (h.room hroom).popQuery (ends := true)
    rw [heq]; exact (hpop.trans (hpop.sound.fault _ _ _)).opening
  · have hpop := (h.room hroom).popQuery (ends := true)
    rw [heq]; exact hpop.thenOpening (hpop.sound.openGather hq)

end

end Sys2Proof.Machine

/-! The ports' commands, the management port's writes, the expiries and the dispatch: every command leads from a sound state
to a sound one, and each slot's record lives as R1, R44 and R46 say. -/

namespace Sys2Proof.Machine

section
variable {ends : Bool} {n k p : Nat} {s t : State} {g : Gather} {pf : Profile} {pt : Port} {now : Time}

/-! ## The form of a port under its changes -/

/-- Bringing F into its bounds changes F and its flags alone, and F then lies within them (R112). -/
theorem Port.bring_spec (pf : Profile) (f : Int) (pt : Port) : pf.fMin.toNat ≤ (pt.bring pf f).flight ∧
    (pt.bring pf f).flight ≤ pf.fMaxe ∧ pt.bring pf f = { pt with
      flight := (pt.bring pf f).flight, atFloor := (pt.bring pf f).atFloor, atCeiling := (pt.bring pf f).atCeiling } := by
  have hmax : pf.fMin.toNat ≤ pf.fMaxe := Nat.le_max_right _ _
  unfold Port.bring
  split
  · exact ⟨Nat.le_refl _, hmax, rfl⟩
  · split
    · exact ⟨hmax, Nat.le_refl _, rfl⟩
    · exact ⟨by simp only; omega, by simp only; omega, rfl⟩

theorem Profile.fMaxe_le (pf : Profile) : pf.fMaxe ≤ 16383 := by
  have h1 := pf.fMax.isLt
  have h2 := pf.fMin.isLt
  unfold Profile.fMaxe
  omega

theorem Profile.floor_le (pf : Profile) (admin : BitVec 3) (m : Mode) : pf.floor admin m ≤ 7 := by
  have h1 := admin.isLt
  have h2 := (pf.floors.get m).isLt
  unfold Profile.floor
  omega

/-- A port whose F has been brought into the bounds of `pf` has the form, where its other laws hold. -/
theorem Port.bring_formed (f : Int) (ho : pt.outstanding ≤ 16383) (he : pt.effFloor ≤ 7) (ht : pt.timersAgree = true)
    (hq : Table.wf [] pt.queues) : (pt.bring pf f).Formed p pf := by
  obtain ⟨hmin, hmax, heq⟩ := Port.bring_spec pf f pt
  refine ⟨Nat.le_trans hmax pf.fMaxe_le, ?_, ?_, fun _ _ => ⟨hmin, hmax⟩, ?_, ?_⟩
  · rw [heq]; exact ho
  · rw [heq]; exact he
  · rw [heq]; exact ht
  · rw [heq]; exact hq

theorem Port.refloor_formed (h : pt.Formed p pf) (pf' : Profile) : (pt.refloor pf').Formed p pf :=
  { h with effFloor := pf'.floor_le _ _ }

/-- The timers of an enabled port agree: no dwell timer in CALM, a running one above it, a suspended one while STALE. -/
theorem Port.timersAgree_iff (h : pt.enabled = true) : pt.timersAgree = true ↔
    (pt.mode = .calm ↔ pt.dwell = .absent) ∧ (∀ d, pt.dwell = .armed d → pt.stale = false) ∧
      (∀ r, pt.dwell = .suspended r → pt.stale = true) ∧ (pt.stale = true → pt.staleAt = none) := by
  unfold Port.timersAgree
  rw [if_pos h]
  cases hd : pt.dwell <;> cases hs : pt.stale <;> by_cases hm : pt.mode = .calm <;> simp [hm]

theorem Profile.armDwell_timers (pf : Profile) (now : Time) (m : Mode) :
    (m = .calm ↔ pf.armDwell now m = .absent) ∧ ∀ r, pf.armDwell now m ≠ .suspended r := by
  unfold Profile.armDwell
  split
  · rename_i h; exact ⟨⟨fun _ => rfl, fun _ => h⟩, nofun⟩
  · rename_i h; exact ⟨⟨fun hm => absurd hm h, nofun⟩, nofun⟩

/-- The timers agree after a fresh report has resumed the dwell timer and stepped the mode (R100 to R104). -/
theorem Port.climb_timers (depth : Nat) (he : pt.enabled = true) (h : pt.timersAgree = true) :
    ((pt.freshen pf now).climb pf now depth).timersAgree = true := by
  obtain ⟨hcalm, harmed, hsusp, -⟩ := (Port.timersAgree_iff he).1 h
  have hfresh : (pt.freshen pf now).timersAgree = true ∧ (pt.freshen pf now).enabled = true ∧
      (pt.freshen pf now).stale = false := by
    refine ⟨(Port.timersAgree_iff (pt := pt.freshen pf now) he).2 ?_, he, rfl⟩
    cases hs : pt.stale <;> cases hd : pt.dwell <;> simp_all [Port.freshen, Timer.resume]
  obtain ⟨hagree, hen, hstale⟩ := hfresh
  have harm : ∀ m, Port.timersAgree { pt.freshen pf now with mode := m, dwell := pf.armDwell now m } = true := fun m => by
    obtain ⟨habs, hno⟩ := pf.armDwell_timers now m
    exact (Port.timersAgree_iff (pt := { pt.freshen pf now with mode := m, dwell := pf.armDwell now m }) hen).2
      ⟨habs, fun _ _ => rfl, fun r hr => absurd hr (hno r), nofun⟩
  unfold Port.climb
  split
  · exact harm _
  · split
    · exact harm (pt.freshen pf now).mode
    · exact hagree

/-- A report's change of the port keeps its form (R99). -/
theorem Port.report_formed (depth : Nat) (he : pt.enabled = true) (h : pt.Formed p pf) :
    (pt.report pf now depth).Formed p pf := by
  have hclimb := Port.climb_timers (pf := pf) (now := now) depth he h.timers
  have hsame : ((pt.freshen pf now).climb pf now depth).outstanding = pt.outstanding ∧
      ((pt.freshen pf now).climb pf now depth).effFloor = pt.effFloor ∧
      ((pt.freshen pf now).climb pf now depth).queues = pt.queues := by
    unfold Port.climb
    split
    · exact ⟨rfl, rfl, rfl⟩
    · split <;> exact ⟨rfl, rfl, rfl⟩
  have hbring := Port.bring_formed (p := p) (pf := pf) (((pt.freshen pf now).climb pf now depth).stepped pf)
    (hsame.1 ▸ h.outstanding) (hsame.2.1 ▸ h.effFloor) hclimb (hsame.2.2 ▸ h.queues)
  exact Port.refloor_formed (pt := ((pt.freshen pf now).climb pf now depth).stepFlight pf) { hbring with } pf

/-- A report leaves a port's enable state, profile number and draw state. -/
theorem Port.report_same (pf : Profile) (now : Time) (depth : Nat) (pt : Port) :
    (pt.report pf now depth).enabled = pt.enabled ∧ (pt.report pf now depth).profile = pt.profile ∧
      (pt.report pf now depth).outstanding = pt.outstanding ∧ (pt.report pf now depth).queues = pt.queues := by
  have hclimb : ((pt.freshen pf now).climb pf now depth).enabled = pt.enabled ∧
      ((pt.freshen pf now).climb pf now depth).profile = pt.profile ∧
      ((pt.freshen pf now).climb pf now depth).outstanding = pt.outstanding ∧
      ((pt.freshen pf now).climb pf now depth).queues = pt.queues := by
    unfold Port.climb
    split
    · exact ⟨rfl, rfl, rfl, rfl⟩
    · split <;> exact ⟨rfl, rfl, rfl, rfl⟩
  have hbring := (Port.bring_spec pf (((pt.freshen pf now).climb pf now depth).stepped pf)
    ((pt.freshen pf now).climb pf now depth)).2.2
  unfold Port.report Port.stepFlight Port.refloor
  dsimp only
  rw [hbring]
  exact hclimb

/-- A dwell expiry's change of the port keeps its form (R105). -/
theorem Port.dwellFall_formed (hdue : pt.dwell.isDue now = true) (h : pt.Formed p pf) :
    (pt.dwellFall pf now).Formed p pf := by
  have harmed : ∃ d, pt.dwell = .armed d := by
    cases hd : pt.dwell with
    | armed d => exact ⟨d, rfl⟩
    | absent => rw [hd] at hdue; cases hdue
    | suspended r => rw [hd] at hdue; cases hdue
  obtain ⟨d, hd⟩ := harmed
  have he : pt.enabled = true := by
    by_contra hne
    have := h.timers
    simp [Port.timersAgree, hne, hd] at this
  obtain ⟨-, harm, -, hnone⟩ := (Port.timersAgree_iff he).1 h.timers
  obtain ⟨habs, hno⟩ := pf.armDwell_timers now pt.mode.lower
  have htimers := (Port.timersAgree_iff (pt := { pt with mode := pt.mode.lower, dwell := pf.armDwell now pt.mode.lower })
    he).2 ⟨habs, fun _ _ => harm d hd, fun r hr => absurd hr (hno r), hnone⟩
  exact Port.refloor_formed (pt := { pt with mode := pt.mode.lower, dwell := pf.armDwell now pt.mode.lower })
    { h with timers := htimers } pf

/-- A stale expiry's change of the port keeps its form (R108). -/
theorem Port.goStale_formed (hdue : due now pt.staleAt = true) (h : pt.Formed p pf) : (pt.goStale now).Formed p pf := by
  have hsome : pt.staleAt ≠ none := fun hn => by rw [hn] at hdue; cases hdue
  have he : pt.enabled = true := by
    by_contra hne
    have := h.timers
    simp [Port.timersAgree, hne, hsome] at this
  obtain ⟨hcalm, -, -, -⟩ := (Port.timersAgree_iff he).1 h.timers
  refine { h with timers := (Port.timersAgree_iff (pt := pt.goStale now) he).2 ⟨hcalm.trans ?_, fun d hd => ?_,
    fun _ _ => rfl, fun _ => rfl⟩ }
  · cases hd : pt.dwell <;> simp [Port.goStale, Timer.suspend, hd]
  · cases hd' : pt.dwell <;> simp [Port.goStale, Timer.suspend, hd'] at hd

/-- An enabled port's form (R98). -/
theorem Port.enable_formed (h : pt.Formed p pf) : (pt.enable pf now).Formed p pf := by
  have hmax : pf.fMin.toNat ≤ pf.fMaxe := Nat.le_max_right _ _
  have hlow : pf.fMin.toNat ≤ pf.startFlight := by unfold Profile.startFlight; omega
  have hhigh : pf.startFlight ≤ pf.fMaxe := Nat.min_le_right _ _
  exact Port.refloor_formed (p := p) (pt := { pt with
    enabled := true, mode := .calm, dwell := .absent, stale := false, staleAt := armUnlessZero now pf.staleTime.toNat
    flight := pf.startFlight, atFloor := false, atCeiling := false }) (pf := pf)
    ⟨Nat.le_trans hhigh pf.fMaxe_le, h.outstanding, h.effFloor, fun _ _ => ⟨hlow, hhigh⟩, rfl, h.queues⟩ pf

theorem Port.disable_formed (h : pt.Formed p pf) : pt.disable.Formed p pf :=
  ⟨h.flight, h.outstanding, h.effFloor, nofun, rfl, h.queues⟩

/-! ## The ports' commands -/

theorem State.Sound.mapMeters (h : s.Sound n) (f : Meter → Meter) : s.Leads ends n (s.mapMeters f) :=
  h.apart (h.formed.mapMeters f) rfl rfl rfl rfl

/-- A change of a port's pressure and what it calls for beyond the port (R113, R116). -/
theorem State.Sound.applyPort (h : s.Sound n) (hp : p < 48) {new : Port}
    (hv : new.Formed p (s.profileAt new.profile.toNat)) (henabled : (s.port p).enabled = true → new.enabled = true)
    (ho : new.outstanding = (s.port p).outstanding) (hq : new.queues = (s.port p).queues) :
    s.Leads ends n (s.applyPort p (s.port p) new) := by
  have hset := h.setPort (ends := ends) hv henabled ho hq
  have hentry : s.Leads ends n
      (if entersSurge (s.port p) new then (s.setPort p new).surgeEntry p else s.setPort p new) := by
    split
    · exact ((hset.trans (hset.sound.mapMeters _)).offer _ _ _).raise _
    · exact hset
  unfold State.applyPort
  refine State.Leads.passIf ?_ _ hp
  split
  · exact hentry.trans (hentry.sound.mapMeters _)
  · exact hentry

theorem State.Sound.report (h : s.Sound n) (hp : p < 48) (he : (s.port p).enabled = true) (depth : Nat) :
    s.Leads ends n (s.applyPort p (s.port p) ((s.port p).report (s.profileOf p) s.timebase depth)) := by
  obtain ⟨hen, hprofile, hout, hqueues⟩ := Port.report_same (s.profileOf p) s.timebase depth (s.port p)
  refine h.applyPort hp ?_ (fun _ => hen.trans he) hout hqueues
  rw [hprofile]
  exact Port.report_formed depth he (h.formed.port p)

/-- A command is taken (R173). -/
theorem State.Leads.finishCommand (h : s.Leads ends n t) (code port : BitVec 8) (tag : Tag) (r : Result) :
    s.Leads ends n (t.finishCommand code port tag r) :=
  h.trans (h.sound.apart { h.formed with } rfl rfl rfl rfl)

theorem State.Sound.enableAt (h : s.Sound n) (p : Nat) : s.Leads ends n (s.enableAt p) := by
  unfold State.enableAt
  dsimp only
  split
  · exact h.refl
  · have hset := h.setPort (ends := ends) (p := p) (v := (s.port p).enable (s.profileOf p) s.timebase)
      (Port.enable_formed (h.formed.port p)) (fun _ => rfl) rfl rfl
    split
    · exact hset.trans (hset.sound.mapMeters _)
    · exact hset

/-- A port with no record may be disabled. -/
theorem State.Sound.disablePort (h : s.Sound n) (hnone : ∀ k g, s.gather? k = some g → g.port ≠ p) :
    s.Leads ends n (s.setPort p (s.port p).disable) := by
  have hport : ∀ q, (s.setPort p (s.port p).disable).port q = if q = p then (s.port p).disable else s.port q :=
    fun q => State.port_setPort ..
  have hdraws : ∀ q, ((s.setPort p (s.port p).disable).port q).outstanding = (s.port q).outstanding ∧
      ∀ c, ((s.setPort p (s.port p).disable).port q).queue c = (s.port q).queue c := fun q => by
    rw [hport]
    split
    · rename_i hq; subst hq; exact ⟨rfl, fun _ => rfl⟩
    · exact ⟨rfl, fun _ => rfl⟩
  refine ⟨h.formed.setPort (Port.disable_formed (h.formed.port p)), { h.work with enabled := ?_, queues := ?_, draws := ?_ },
    fun _ => Slot.Lives.refl _⟩
  · intro k g hg
    rw [hport, if_neg (hnone k g hg)]
    exact h.work.enabled k g hg
  · intro q hq c
    rw [(hdraws q).2]
    exact h.work.queues q hq c
  · intro q hq
    rw [(hdraws q).1]
    exact h.work.draws q hq

theorem State.mem_slotsOf (hg : s.gather? k = some g) : k ∈ s.slotsOf g.port :=
  List.mem_filter.2 ⟨State.mem_keys_of_gather? hg, by simp [hg]⟩

/-- DISABLE_PORT at a port (R160). -/
theorem State.Sound.disableAt (h : s.Sound n) (p : Nat) : s.Leads true n (s.disableAt p) := by
  unfold State.disableAt
  split
  · obtain ⟨hall, hfreed⟩ := h.retireAll (s.slotsOf p)
    have hpass := hall.passes (s.retireAll (s.slotsOf p)).2
    refine hpass.trans (hpass.sound.disablePort fun k x hx hport => ?_)
    obtain ⟨y, hy, hxport, -⟩ := (hall.sound.passes (ends := true) _).record hx
    obtain ⟨g, hg, hyport, -⟩ := hall.record hy
    have hp : g.port = p := (hxport.trans hyport).symm.trans hport
    rw [hfreed k (hp ▸ State.mem_slotsOf hg)] at hy
    cases hy
  · exact h.refl

/-! ## Table writes -/

theorem State.Leads.advance (h : s.Leads ends n t) : s.Leads ends n t.advance :=
  h.trans (h.sound.apart { h.formed with } rfl rfl rfl rfl)

/-- A write of a port's settings and the pass of its notice (R115, R157). -/
theorem State.Sound.writePort (h : s.Sound n) (hp : p < 48) {v : Port} (hv : v.Formed p (s.profileAt v.profile.toNat))
    (henabled : v.enabled = (s.port p).enabled) (ho : v.outstanding = (s.port p).outstanding)
    (hq : v.queues = (s.port p).queues) (call : Bool) : s.Leads ends n ((s.advance.setPort p v).passIf call p) := by
  have hadv := (h.refl (ends := ends)).advance
  exact (hadv.trans (hadv.sound.setPort hv (fun he => henabled.trans he) ho hq)).passIf _ hp

theorem Port.setProfile_formed (h : pt.Formed p pf) (number : BitVec 3) (pf' : Profile) :
    (pt.setProfile number pf').Formed p pf' ∧ (pt.setProfile number pf').enabled = pt.enabled ∧
      (pt.setProfile number pf').profile = number ∧ (pt.setProfile number pf').outstanding = pt.outstanding ∧
      (pt.setProfile number pf').queues = pt.queues := by
  unfold Port.setProfile
  dsimp only
  split
  · refine ⟨Port.bring_formed (pt := { pt with profile := number }) _ h.outstanding h.effFloor h.timers h.queues, ?_⟩
    rw [(Port.bring_spec pf' pt.flight { pt with profile := number }).2.2]
    exact ⟨rfl, rfl, rfl, rfl⟩
  · rename_i he
    exact ⟨⟨h.flight, h.outstanding, h.effFloor, fun _ hen => absurd hen he, h.timers, h.queues⟩, rfl, rfl, rfl, rfl⟩

/-- TABLE_SELECT names ports and words that the part has (R174). -/
theorem TableSelect.target_port {x : TableSelect} {w : Nat} (h : x.target = .port p w) : p < 48 := by
  unfold TableSelect.target at h
  dsimp only at h
  split at h
  case h_2 =>
    split at h
    · rename_i hb; cases h; exact hb.1
    · cases h
  case h_7 => cases h
  all_goals split at h <;> cases h

/-! ## Profile writes -/

theorem atLeastOne_ne_zero {width : Nat} (hw : 0 < width) (v : BitVec width) : atLeastOne v ≠ 0#width := by
  unfold atLeastOne
  split
  · exact fun h => absurd (BitVec.one_eq_zero_iff.1 h) (Nat.ne_of_gt hw)
  · assumption

theorem storedShare_le (v : BitVec 5) : (storedShare v).toNat ≤ 16 := by
  unfold storedShare
  split
  · decide
  · omega

/-- A written profile holds stored values (R150 to R152). -/
theorem Profile.store_legal (h : pf.Legal) (i : Nat) (w : Word) : (pf.store i w).Legal := by
  unfold Profile.store
  split
  case h_3 => exact { h with dwellFill := atLeastOne_ne_zero (by decide) _, dwellCrowd := atLeastOne_ne_zero (by decide) _ }
  case h_4 => exact { h with dwellSurge := atLeastOne_ne_zero (by decide) _ }
  case h_5 => exact { h with fMin := atLeastOne_ne_zero (by decide) _, fMax := atLeastOne_ne_zero (by decide) _ }
  case h_6 => exact { h with fInit := atLeastOne_ne_zero (by decide) _ }
  case h_7 => exact { h with sUp := atLeastOne_ne_zero (by decide) _, sDown := atLeastOne_ne_zero (by decide) _ }
  case h_8 => exact { h with quantum := atLeastOne_ne_zero (by decide) _ }
  case h_9 =>
    exact { h with
      shareCalm := storedShare_le _, shareFill := storedShare_le _, shareCrowd := storedShare_le _
      shareSurge := storedShare_le _ }
  case h_12 =>
    exact { h with lapseLimit := atLeastOne_ne_zero (by decide) _, defaultClass := atLeastOne_ne_zero (by decide) _ }
  all_goals exact { h with }

/-- Of the profile words, word 4 alone holds the bounds of F (R151, R154). -/
theorem Profile.store_bounds (pf : Profile) {i : Nat} (hi : i ≠ 4) (w : Word) :
    (pf.store i w).fMin = pf.fMin ∧ (pf.store i w).fMaxe = pf.fMaxe := by
  unfold Profile.store
  split
  case h_5 => exact absurd rfl hi
  all_goals exact ⟨rfl, rfl⟩

/-- The clamp of the first `m` ports, port by port (R154). -/
theorem State.clampPorts_fold (s : State) (number m : Nat) : ∃ u : State, ∃ called : List Nat,
    (List.range m).foldl (clampPort number) (s, []) = (u, called) ∧ u = { s with ports := u.ports } ∧
      (Table.wf Port.reset s.ports → Table.wf Port.reset u.ports) ∧
      ∀ q, u.port q = if q < m ∧ (s.port q).enabled = true ∧ (s.port q).profile.toNat = number
        then (s.port q).bring (s.profileAt number) (s.port q).flight else s.port q := by
  induction m with
  | zero => exact ⟨s, [], rfl, rfl, id, fun q => by simp⟩
  | succ m ih =>
    obtain ⟨u, called, hfold, hframe, hwf, hport⟩ := ih
    rw [List.range_succ, List.foldl_append, hfold]
    have hm : u.port m = s.port m := by rw [hport]; simp
    have hprofile : u.profileAt number = s.profileAt number := by rw [hframe]; rfl
    simp only [List.foldl_cons, List.foldl_nil, clampPort, hm, hprofile]
    by_cases hc : (s.port m).enabled = true ∧ (s.port m).profile.toNat = number
    · rw [if_pos hc]
      refine ⟨_, _, rfl, by rw [hframe]; rfl, fun h => Table.wf_set _ _ _ _ (hwf h), fun q => ?_⟩
      rw [State.port_setPort, hport]
      by_cases hq : q = m
      · subst hq; simp [hc]
      · simp [hq, show q < m + 1 ↔ q < m by omega]
    · rw [if_neg hc]
      refine ⟨u, called, rfl, hframe, hwf, fun q => ?_⟩
      rw [hport]
      by_cases hq : q = m
      · subst hq; simp [hc]
      · simp [show q < m + 1 ↔ q < m by omega]

/-- A change that leaves the records, the pool, the Emission Queue and, at every port, the enable state and the draw
state. -/
theorem State.Sound.repressure (h : s.Sound n) (hf : t.Formed n) (hslots : t.slots = s.slots) (hfree : t.free = s.free)
    (hemq : t.emq = s.emq) (hports : ∀ q, (t.port q).enabled = (s.port q).enabled ∧
      (t.port q).outstanding = (s.port q).outstanding ∧ (t.port q).queues = (s.port q).queues) : s.Leads ends n t := by
  refine ⟨hf, h.work.congr hslots hfree hemq (fun q he => (hports q).1.trans he) fun q => (hports q).2, fun k => ?_⟩
  rw [State.slot, State.slot, hslots]
  exact Slot.Lives.refl _

/-- The state with profile `number` replaced. -/
def State.setProfile (number : Nat) (pf : Profile) (s : State) : State :=
  { s with profiles := Table.set Profile.reset s.profiles number pf }

theorem State.profileAt_setProfile (s : State) (number j : Nat) (pf : Profile) :
    (s.setProfile number pf).profileAt j = if j = number then pf else s.profileAt j := Table.get_set ..

/-- A profile is written, and the ports are brought into the bounds that it gives them. -/
theorem State.Sound.setProfile (h : s.Sound n) (number : Nat) (hpf : pf.Legal) (hports : Table.wf Port.reset t.ports)
    (hframe : t = { s.setProfile number pf with ports := t.ports })
    (hform : ∀ q, (t.port q).Formed q
      (if (t.port q).profile.toNat = number then pf else s.profileAt (t.port q).profile.toNat))
    (hsame : ∀ q, (t.port q).enabled = (s.port q).enabled ∧ (t.port q).outstanding = (s.port q).outstanding ∧
      (t.port q).queues = (s.port q).queues) : s.Leads ends n t := by
  have hread : ∀ j, t.profileAt j = if j = number then pf else s.profileAt j := fun j => by
    rw [hframe]; exact State.profileAt_setProfile s number j pf
  have hf : ({ s.setProfile number pf with ports := t.ports } : State).Formed n := { h.formed with
    ports := hports
    profiles := Table.wf_set _ _ _ _ h.formed.profiles
    legal := fun j => by
      rw [← hframe, hread]
      split
      · exact hpf
      · exact h.formed.legal j
    port := fun q => by
      rw [← hframe]
      have := hform q
      rwa [← hread] at this }
  rw [← hframe] at hf
  exact h.repressure hf (by rw [hframe]; rfl) (by rw [hframe]; rfl) (by rw [hframe]; rfl) hsame

/-- A write of a profile word other than word 4 (R154). -/
theorem State.Sound.writeProfile (h : s.Sound n) (number : Nat) {w : Nat} (hw : w ≠ 4) (value : Word) :
    s.Leads ends n (s.setProfile number ((s.profileAt number).store w value)) := by
  obtain ⟨hmin, hmax⟩ := Profile.store_bounds (s.profileAt number) hw value
  refine h.setProfile number (Profile.store_legal (h.formed.legal number) w value) h.formed.ports rfl (fun q => ?_)
    fun q => ⟨rfl, rfl, rfl⟩
  refine { h.formed.port q with range := fun hq he => ?_ }
  have hrange := (h.formed.port q).range hq he
  show _ ≤ (s.port q).flight ∧ (s.port q).flight ≤ _
  split
  · rename_i hn
    have hn' : (s.port q).profile.toNat = number := hn
    rw [hmin, hmax, ← hn']
    exact hrange
  · exact hrange

/-- A write of word 4, the clamp that goes with it and the passes of the ports whose F rose (R154). -/
theorem State.Sound.writeBounds (h : s.Sound n) (number : Nat) (value : Word) :
    s.Leads ends n ((s.setProfile number ((s.profileAt number).store 4 value)).clampPorts number) := by
  have hlegal := Profile.store_legal (h.formed.legal number) 4 value
  generalize (s.profileAt number).store 4 value = pf at hlegal ⊢
  obtain ⟨u, called, hfold, hframe, hwf, hport⟩ := State.clampPorts_fold (s.setProfile number pf) number 48
  have hself : (s.setProfile number pf).profileAt number = pf := by rw [State.profileAt_setProfile, if_pos rfl]
  have hclamp : ∀ q, u.port q = if q < 48 ∧ (s.port q).enabled = true ∧ (s.port q).profile.toNat = number
      then (s.port q).bring pf (s.port q).flight else s.port q := fun q => by
    have := hport q
    rwa [hself] at this
  have hlead : s.Leads ends n u := by
    refine h.setProfile number hlegal (hwf h.formed.ports) hframe (fun q => ?_) fun q => ?_
    · have hq := h.formed.port q
      rw [hclamp]
      split
      · rename_i hc
        obtain ⟨-, -, heq⟩ := Port.bring_spec pf (s.port q).flight (s.port q)
        have hprofile : ((s.port q).bring pf (s.port q).flight).profile.toNat = number := by rw [heq]; exact hc.2.2
        rw [if_pos hprofile]
        exact Port.bring_formed _ hq.outstanding hq.effFloor hq.timers hq.queues
      · rename_i hc
        split
        · rename_i hn
          exact { hq with range := fun hlt he => absurd ⟨hlt, he, hn⟩ hc }
        · exact hq
    · rw [hclamp]
      split
      · rw [(Port.bring_spec pf (s.port q).flight (s.port q)).2.2]
        exact ⟨rfl, rfl, rfl⟩
      · exact ⟨rfl, rfl, rfl⟩
  have hall : (s.setProfile number pf).clampPorts number = u.passes called := by
    unfold State.clampPorts
    rw [show Config.ports = 48 from rfl, hfold]
  rw [hall]
  exact hlead.passes called

/-! ## Expiries -/

/-- A reclaim (R93, R94). -/
theorem State.Sound.reclaim (h : s.Sound n) (hg : s.gather? k = some g) (ha : g.stage = .active) {m : Member}
    (hm : m ∈ g.roster) (hd : m.drawDeadline.isSome = true) : s.Leads true n (s.reclaim k g m) := by
  have hl := h.active hg ha
  obtain ⟨hqueued, -, -, -, -⟩ := Member.out_of_deadline (hl.phases m hm) hd
  have halt : ∃ m', g.Alters m m' (if decide ((s.profileOf g.port).lapses ≤ m.reclaimed.lapses)
      then g.lapseMember m.reclaimed else (g.setMember m.reclaimed).reevaluate (s.profileOf g.port) m.entry) ∧
      m'.drawQueued = 0 ∧ m'.drawOut = 0 := by
    split
    · exact ⟨_, Gather.lapsed_alters hl hm hd, rfl, rfl⟩
    · rename_i hlow
      obtain ⟨ph, halt⟩ := Gather.reclaimed_alters (s.profileOf g.port) hl ha hm hd
        (Nat.lt_of_not_le fun hle => hlow (decide_eq_true hle))
      exact ⟨_, halt, hqueued, rfl⟩
  obtain ⟨m', halt, hq0, ho0⟩ := halt
  unfold State.reclaim
  refine State.Leads.passIf ?_ _ hl.port
  generalize (if decide ((s.profileOf g.port).lapses ≤ m.reclaimed.lapses) = true then g.lapseMember m.reclaimed
    else (g.setMember m.reclaimed).reevaluate (s.profileOf g.port) m.entry) = g' at halt ⊢
  have hput := (h.alter (ends := true) hg ha halt (r := m.drawOut) (by omega) (.inl hq0)).offer g.port .drawsReclaimed 1
  split
  · refine hput.trans (hput.sound.endGather ?_ (halt.same.2.2.2.1.trans ha) .complete)
    rw [State.gather?_congr (t := State.offer _ _ _ _) (s := s.putGather k g g')
      (show State.slot _ k = _ by rw [State.slot, State.offer_slots]; rfl)]
    exact State.gather?_putGather s halt.same.1
  · exact hput

theorem State.Sound.expireGather (h : s.Sound n) (hg : s.gather? k = some g) (ha : g.stage = .active) (o : Ending) :
    s.Leads true n (s.expireGather k g o) := (h.endGather hg ha o).passIf _ (h.active hg ha).port

/-! ## The commands -/

theorem State.takeableEntry_some {e : Emission} (h : s.takeableEntry = some e) : ∃ rest, s.emq = e :: rest := by
  unfold State.takeableEntry at h
  split at h
  · exact List.head?_eq_some_iff.1 h
  · cases h

theorem due_isSome {now : Time} {d : Option Time} (h : due now d = true) : d.isSome = true := by
  cases d with
  | none => cases h
  | some _ => rfl

/-- Every command but part reset and OPEN leads from a sound state to a sound one. -/
theorem State.Sound.exec (h : s.Sound 64) (c : Instr) (hreset : c ≠ .partReset) (hopen : c ≠ .openQuery) :
    ∃ t, exec c s = .next t ∧ s.Leads true 64 t := by
  have hself : s.Leads true 64 s := h.refl
  cases c with
  | partReset => exact absurd rfl hreset
  | openQuery => exact absurd rfl hopen
  | lossOfFraming =>
    refine ⟨_, rfl, ?_⟩
    split
    · have hlink := h.linkReset (ends := true)
      exact hlink.trans (hlink.sound.apart { hlink.formed with } rfl rfl rfl rfl)
    · exact hself
  | framingAcquired => exact ⟨_, rfl, h.apart { h.formed with } rfl rfl rfl rfl⟩
  | queryArrival words =>
    refine ⟨_, rfl, ?_⟩
    split
    · split
      · rename_i hlen
        exact h.apart { h.formed with
          queryFifo := by
            show (s.queryFifo ++ [words]).length ≤ 64
            rw [List.length_append]
            exact hlen } rfl rfl rfl rfl
      · exact h.raise _
    · exact hself
  | undefinedSignal words => exact ⟨s, rfl, hself⟩
  | extendQuery => exact ⟨_, rfl, h.takeQuery _ fun q u hu _ => hu.extendGather q⟩
  | reclassQuery => exact ⟨_, rfl, h.takeQuery _ fun q u hu _ => hu.reclassGather q⟩
  | closeQuery => exact ⟨_, rfl, h.takeQuery _ fun q u hu _ => hu.closeGather q⟩
  | arriveQuery => exact ⟨_, rfl, h.takeQuery _ fun q u hu _ => hu.classify q⟩
  | undefinedQuery =>
    exact ⟨_, rfl, h.takeQuery _ fun q u hu _ =>
      hu.apart { hu.formed with answerFifo := Nat.le_succ_of_le hu.formed.answerFifo } rfl rfl rfl rfl⟩
  | answer =>
    refine ⟨_, rfl, ?_⟩
    split
    · exact hself
    · rename_i a rest hfifo
      split
      · have hlen := h.formed.answerFifo
        rw [hfifo] at hlen
        exact h.apart { h.formed with answerFifo := Nat.le_of_succ_le hlen } rfl rfl rfl rfl
      · exact hself
  | drawEmission =>
    refine ⟨_, rfl, ?_⟩
    split
    · exact hself
    · rename_i e he
      split
      · exact hself
      · rename_i g m hv
        obtain ⟨rest, hemq⟩ := State.takeableEntry_some he
        split
        · exact h.depart hemq hv
        · exact hself
  | staleDiscard =>
    refine ⟨_, rfl, ?_⟩
    split
    · exact hself
    · rename_i e he
      split
      · rename_i hv
        obtain ⟨rest, hemq⟩ := State.takeableEntry_some he
        have hdrop := h.dropHead (ends := true) hemq hv
        rw [hemq, List.tail_cons]
        exact hdrop.trans (hdrop.sound.handPlace false (by decide))
      · exact hself
  | emitCredit count =>
    refine ⟨_, rfl, ?_⟩
    split
    · exact h.apart { h.formed with credit := Nat.min_le_right _ _ } rfl rfl rfl rfl
    · exact hself
  | linkReset =>
    refine ⟨_, rfl, ?_⟩
    split
    · exact h.linkReset
    · exact hself
  | report port depth =>
    refine ⟨_, rfl, ?_⟩
    split
    · rename_i hc
      simp only [Bool.and_eq_true, decide_eq_true_eq] at hc
      exact h.report hc.1.2 hc.2 _
    · exact hself
  | dwellExpiry port =>
    refine ⟨_, rfl, ?_⟩
    split
    · rename_i hc
      simp only [Bool.and_eq_true, decide_eq_true_eq] at hc
      exact h.applyPort hc.1 (Port.dwellFall_formed hc.2 (h.formed.port port)) id rfl rfl
    · exact hself
  | staleExpiry port =>
    refine ⟨_, rfl, ?_⟩
    split
    · rename_i hc
      simp only [Bool.and_eq_true, decide_eq_true_eq] at hc
      exact (h.setPort (v := (s.port port).goStale s.timebase) (Port.goStale_formed hc.2 (h.formed.port port)) id rfl
        rfl).raise _
    · exact hself
  | drawDeadlineExpiry slot position =>
    refine ⟨_, rfl, ?_⟩
    split
    · exact hself
    · rename_i g hg
      split
      · exact hself
      · rename_i m hm
        split
        · rename_i hc
          simp only [Bool.and_eq_true, decide_eq_true_eq] at hc
          exact h.reclaim hg hc.1 (List.mem_of_getElem? hm) (due_isSome hc.2)
        · exact hself
  | idleExpiry slot =>
    refine ⟨_, rfl, ?_⟩
    split
    · exact hself
    · rename_i g hg
      split
      · rename_i hc
        simp only [Bool.and_eq_true, decide_eq_true_eq] at hc
        exact h.expireGather hg hc.1 _
      · exact hself
  | lifetimeExpiry slot =>
    refine ⟨_, rfl, ?_⟩
    split
    · exact hself
    · rename_i g hg
      split
      · rename_i hc
        simp only [Bool.and_eq_true, decide_eq_true_eq] at hc
        exact h.expireGather hg hc.1 _
      · exact hself
  | lingerExpiry slot =>
    refine ⟨_, rfl, ?_⟩
    split
    · exact hself
    · rename_i g hg
      split
      · rename_i hc
        simp only [Bool.and_eq_true, decide_eq_true_eq] at hc
        exact h.freeLingering hg hc.1
      · exact hself
  | enablePort port tag =>
    refine ⟨_, rfl, ?_⟩
    split
    · exact (h.enableAt _).finishCommand _ _ _ _
    · exact hself.finishCommand _ _ _ _
  | disablePort port tag =>
    refine ⟨_, rfl, ?_⟩
    split
    · exact (h.disableAt _).finishCommand _ _ _ _
    · exact hself.finishCommand _ _ _ _
  | retireGather port tag =>
    refine ⟨_, rfl, ?_⟩
    split
    · rename_i hp
      split
      · exact hself.finishCommand _ _ _ _
      · exact ((h.retire _).passIf _ hp).finishCommand _ _ _ _
    · exact hself.finishCommand _ _ _ _
  | purgeAll port tag => exact ⟨_, rfl, ((h.retireAll s.slots.keys).1.passes _).finishCommand _ _ _ _⟩
  | metersStart port tag => exact ⟨_, rfl, (h.mapMeters _).finishCommand _ _ _ _⟩
  | metersStop port tag => exact ⟨_, rfl, (h.mapMeters _).finishCommand _ _ _ _⟩
  | badCommand code port tag =>
    refine ⟨_, rfl, ?_⟩
    split
    · exact hself.finishCommand _ _ _ _
    · exact hself
  | profileWrite value =>
    refine ⟨_, rfl, ?_⟩
    split
    · rename_i number w _
      dsimp only
      split
      · rename_i hw
        subst hw
        have hadv := hself.advance
        exact hadv.trans (hadv.sound.writeBounds number value)
      · rename_i hw
        exact (h.writeProfile number hw value).advance
    · exact hself
  | profileNumberWrite value =>
    refine ⟨_, rfl, ?_⟩
    split
    · rename_i p htarget
      obtain ⟨hform, hen, hprofile, hout, hqueues⟩ := Port.setProfile_formed (h.formed.port p) (field value 0 3)
        (s.profileAt (field value 0 3).toNat)
      exact h.writePort (TableSelect.target_port htarget) (by rw [hprofile]; exact hform) hen hout hqueues _
    · exact hself
  | adminFloorWrite value =>
    refine ⟨_, rfl, ?_⟩
    split
    · rename_i p htarget
      exact h.writePort (TableSelect.target_port htarget)
        (v := Port.refloor (s.profileOf p) { s.port p with adminFloor := field value 0 3 })
        (Port.refloor_formed (pt := { s.port p with adminFloor := field value 0 3 })
          { h.formed.port p with } (s.profileOf p)) rfl rfl rfl _
    · exact hself
  | portStatusRead =>
    refine ⟨_, rfl, ?_⟩
    split
    · rename_i p _
      have hread : s.Leads true 64 s.readWindow := h.apart { h.formed with } rfl rfl rfl rfl
      exact hread.trans (hread.sound.setPort (v := { s.port p with atFloor := false, atCeiling := false })
        { h.formed.port p with } id rfl rfl)
    · exact hself
  | exemptWrite value =>
    refine ⟨_, rfl, ?_⟩
    split
    · exact h.apart { h.formed with windows := Table.wf_set _ _ _ _ h.formed.windows } rfl rfl rfl rfl
    · exact hself
  | meterConfigWrite value =>
    refine ⟨_, rfl, ?_⟩
    split
    · exact h.apart { h.formed with meters := Table.wf_set _ _ _ _ h.formed.meters } rfl rfl rfl rfl
    · exact hself
  | meterCountWrite value =>
    refine ⟨_, rfl, ?_⟩
    split
    · exact h.apart { h.formed with meters := Table.wf_set _ _ _ _ h.formed.meters } rfl rfl rfl rfl
    · exact h.apart { h.formed with meters := Table.wf_set _ _ _ _ h.formed.meters } rfl rfl rfl rfl
    · exact hself
  | meterFlagClear value =>
    refine ⟨_, rfl, ?_⟩
    split
    · exact h.apart { h.formed with meters := Table.wf_set _ _ _ _ h.formed.meters } rfl rfl rfl rfl
    · exact hself
  | tableWindowRead =>
    refine ⟨_, rfl, ?_⟩
    split
    · exact hself
    · exact h.apart { h.formed with } rfl rfl rfl rfl
  | attnSummaryWrite value => exact ⟨_, rfl, h.apart { h.formed with } rfl rfl rfl rfl⟩
  | attnEnableWrite value => exact ⟨_, rfl, h.apart { h.formed with } rfl rfl rfl rfl⟩
  | poolLowMarkWrite value =>
    exact ⟨_, rfl, h.apart { h.formed with poolLowMark := Nat.min_le_right _ _ } rfl rfl rfl rfl⟩
  | registerWrite index lanes value =>
    refine ⟨_, rfl, ?_⟩
    split
    · split
      · exact h.apart { h.formed with } rfl rfl rfl rfl
      · split
        · exact hself.advance
        · exact hself
    · exact hself
  | timebaseAdvance =>
    refine ⟨_, rfl, ?_⟩
    split
    · exact hself
    · exact h.apart { h.formed with } rfl rfl rfl rfl

/-- Every command leads from a sound state to a sound one (R1 to R178 as far as `State.Safe` holds them). -/
theorem State.Sound.exec_sound (h : s.Sound 64) (c : Instr) (ht : Machine.exec c s = .next t) : t.Sound 64 := by
  by_cases hreset : c = .partReset
  · subst hreset
    obtain rfl := Host.Outcome.next.inj ht
    have hs := resetIsSafe.sound
    exact (hs.apart (ends := true) (n' := 64) (t := { State.reset with pending := s.pending, freeIndex := s.freeIndex })
      { hs.formed with } rfl rfl rfl rfl).sound
  · by_cases hopen : c = .openQuery
    · subst hopen
      obtain rfl := Host.Outcome.next.inj ht
      have := h.takeOpen fun k => decide (k = 1#4)
      exact ⟨this.formed, this.work⟩
    · obtain ⟨u, hu, hlead⟩ := h.exec c hreset hopen
      rw [ht] at hu
      obtain rfl := Host.Outcome.next.inj hu
      exact hlead.sound

end

/-- Settles O9: a step carries out the front command, from the same state but for the waiting commands. -/
theorem safetyKept : Obligations.SafetyKept := by
  intro s t h hstep
  unfold step at hstep
  split at hstep
  · obtain rfl := Host.Outcome.next.inj hstep
    exact h
  · rename_i c rest _
    have hs := h.sound
    have hwait : ({ s with pending := rest } : State).Sound 64 :=
      (hs.apart (ends := true) (n' := 64) (t := { s with pending := rest }) { hs.formed with } rfl rfl rfl rfl).sound
    exact (hwait.exec_sound c hstep).safe

/-! ## The life of a record under one command -/

/-- Where no OPEN takes the slot, its generation stays or advances by one with a record that goes FREE, a record that stays
goes on, and a FREE slot stays FREE. -/
theorem Slot.Lives.facts {x y : Slot} (h : Slot.Lives true x y) :
    (y.generation = x.generation ∨ y.generation = x.generation + 1#8 ∧ x.body.isSome = true) ∧
    (∀ g, x.body = some g → y.generation = x.generation → ∃ g', y.body = some g' ∧ g.Continues g') ∧
    ((x.body = none ∨ y.generation ≠ x.generation) → y.body = none) := by
  cases h with
  | vacant n => exact ⟨.inl rfl, nofun, fun _ => rfl⟩
  | stands n g g' hg =>
    exact ⟨.inl rfl, fun x hx _ => ⟨g', rfl, Option.some.inj hx ▸ hg⟩, fun hx => absurd rfl (hx.resolve_left nofun)⟩
  | freed n g _ =>
    have hne : n + 1#8 ≠ n := by
      intro h
      have := congrArg BitVec.toNat h
      simp only [BitVec.toNat_add, BitVec.toNat_ofNat] at this
      omega
    exact ⟨.inr ⟨rfl, rfl⟩, fun _ _ hn => absurd hn hne, fun _ => rfl⟩

/-- An OPEN takes a slot whose generation has stayed, without a record before it, or advanced by one, with a record that
has gone FREE. -/
theorem Slot.Opens.facts {x y : Slot} (h : x.Opens y) :
    (y.generation = x.generation ∨ y.generation = x.generation + 1#8 ∧ x.body.isSome = true) ∧
    ∀ g, x.body = some g → y.generation ≠ x.generation := by
  obtain ⟨n, g, hl, rfl⟩ := h
  obtain ⟨hgen, hstay, -⟩ := hl.facts
  exact ⟨hgen, fun g hg hn => by
    obtain ⟨g', hg', -⟩ := hstay g hg hn
    cases hg'⟩

/-- Settles O12: each slot lives as `Slot.Lives` says, or an OPEN has taken it. -/
theorem recordLife : Obligations.RecordLife := by
  intro c s t k h ht hreset
  have hlives : (s.slot k).Lives true (t.slot k) ∨ c = .openQuery ∧ (s.slot k).Opens (t.slot k) := by
    by_cases hopen : c = .openQuery
    · subst hopen
      obtain rfl := Host.Outcome.next.inj ht
      exact ((h.sound.takeOpen fun k => decide (k = 1#4)).lives k).imp_right fun ho => ⟨rfl, ho⟩
    · obtain ⟨u, hu, hlead⟩ := h.sound.exec c hreset hopen
      rw [ht] at hu
      obtain rfl := Host.Outcome.next.inj hu
      exact .inl (hlead.lives k)
  rcases hlives with hl | ⟨hc, ho⟩
  · obtain ⟨hgen, hstay, hfree⟩ := hl.facts
    refine ⟨hgen, fun g hg hn => ?_, fun hx hne => absurd (hfree hx) hne⟩
    obtain ⟨g', hg', hport, htag, hallow, hlinger⟩ := hstay g hg hn
    exact ⟨g', hg', hport, htag, hallow, hlinger⟩
  · obtain ⟨hgen, hnew⟩ := ho.facts
    exact ⟨hgen, fun g hg hn => absurd hn (hnew g hg), fun _ _ => hc⟩

end Sys2Proof.Machine

/-! Deadlines on time: each is ahead by at most the longest duration or was reached at most 1 µs ago (R11, R12). What arms a
deadline puts it on time, and the operations on members, records and the state keep the deadlines on time. -/

namespace Sys2Proof.Machine

/-! ## Points on time -/

/-- A deadline that may be absent is ahead by at most the longest duration of R11, or was reached at most 1 µs ago. -/
def OnTime (now : Time) (deadline : Option Time) : Prop :=
  ∀ d, deadline = some d → (d + 1#32 - now).toNat ≤ 65535001

section
variable {now d : Time}

theorem OnTime.none : OnTime now none := nofun

theorem onTime_after {duration : Nat} (h : duration ≤ 65535000) : OnTime now (some (after now duration)) := by
  intro d hd
  obtain rfl := Option.some.inj hd
  have hsum : after now duration + 1#32 - now = BitVec.ofNat 32 (duration + 1) := by
    unfold after
    rw [show BitVec.ofNat 32 (duration + 1) = BitVec.ofNat 32 duration + 1#32 from BitVec.ofNat_add _ _]
    generalize BitVec.ofNat 32 duration = x
    bv_omega
  rw [hsum, BitVec.toNat_ofNat]
  omega

theorem onTime_armUnlessZero {duration : Nat} (h : duration ≤ 65535000) : OnTime now (armUnlessZero now duration) := by
  unfold armUnlessZero
  split
  · exact OnTime.none
  · exact onTime_after h

/-- What a suspension stores (R13). -/
theorem remaining_le (h : OnTime now (some d)) : remaining now d ≤ 65535000 := by
  have hd := h d rfl
  unfold remaining
  split
  · exact Nat.zero_le _
  · rename_i hr
    have hr' : ¬(now - d).toNat < 2 ^ 31 := fun hlt => hr (decide_eq_true hlt)
    bv_omega

theorem toNat_le_longest (w : BitVec 16) : w.toNat ≤ 65535000 := Nat.le_trans (Nat.le_of_lt_succ w.isLt) (by decide)

theorem Profile.drawLife_le (pf : Profile) : pf.drawLife ≤ 65535000 := by
  unfold Profile.drawLife
  split
  · decide
  · exact toNat_le_longest _

theorem Profile.dwellTime_le (pf : Profile) (m : Mode) : pf.dwellTime m ≤ 65535000 := by
  cases m
  · exact Nat.zero_le _
  · exact toNat_le_longest _
  · exact toNat_le_longest _
  · exact toNat_le_longest _

/-! ## Ports on time -/

/-- A timer whose deadline is on time, or whose stored remaining time is at most the longest duration (R13). -/
def Timer.OnTime (now : Time) : Timer → Prop
  | .absent => True
  | .armed d => Machine.OnTime now (some d)
  | .suspended r => r ≤ 65535000

/-- Both timers of a port are on time. -/
structure Port.OnTime (now : Time) (pt : Port) : Prop where
  dwell : pt.dwell.OnTime now
  stale : Machine.OnTime now pt.staleAt

theorem Timer.OnTime.suspend {t : Timer} (h : t.OnTime now) : (t.suspend now).OnTime now := by
  cases t with
  | absent => trivial
  | armed d => exact remaining_le h
  | suspended r => exact h

theorem Timer.OnTime.resume {t : Timer} (h : t.OnTime now) : (t.resume now).OnTime now := by
  cases t with
  | absent => trivial
  | armed d => exact h
  | suspended r => exact onTime_after h

theorem Profile.armDwell_onTime (pf : Profile) (m : Mode) : (pf.armDwell now m).OnTime now := by
  unfold Profile.armDwell
  split
  · trivial
  · exact onTime_after (pf.dwellTime_le m)

theorem Port.reset_onTime : Port.reset.OnTime now := ⟨trivial, OnTime.none⟩

variable {pt : Port}

theorem Port.OnTime.bring (h : pt.OnTime now) (pf : Profile) (f : Int) : (pt.bring pf f).OnTime now := by
  unfold Port.bring
  split
  · exact { h with }
  · split
    · exact { h with }
    · exact { h with }

theorem Port.OnTime.climb (h : pt.OnTime now) (pf : Profile) (depth : Nat) : (pt.climb pf now depth).OnTime now := by
  unfold Port.climb
  split
  · exact { h with dwell := pf.armDwell_onTime _ }
  · split
    · exact { h with dwell := pf.armDwell_onTime _ }
    · exact h

/-- A report re-arms the stale deadline, resumes the dwell timer of a STALE port, and arms it on a rise or activity (R100 to
R104). -/
theorem Port.OnTime.report (h : pt.OnTime now) (pf : Profile) (depth : Nat) : (pt.report pf now depth).OnTime now := by
  have hfresh : (pt.freshen pf now).OnTime now := {
    dwell := by
      unfold Port.freshen
      dsimp only
      split
      · exact h.dwell.resume
      · exact h.dwell
    stale := onTime_armUnlessZero (toNat_le_longest _) }
  have hclimb := hfresh.climb pf depth
  have hbring := hclimb.bring pf (((pt.freshen pf now).climb pf now depth).stepped pf)
  exact { hbring with }

theorem Port.OnTime.dwellFall (h : pt.OnTime now) (pf : Profile) : (pt.dwellFall pf now).OnTime now :=
  { h with dwell := pf.armDwell_onTime _ }

theorem Port.OnTime.goStale (h : pt.OnTime now) : (pt.goStale now).OnTime now := ⟨h.dwell.suspend, OnTime.none⟩

theorem Port.enable_onTime (pf : Profile) (pt : Port) : (pt.enable pf now).OnTime now :=
  ⟨trivial, onTime_armUnlessZero (toNat_le_longest _)⟩

theorem Port.disable_onTime (pt : Port) : pt.disable.OnTime now := ⟨trivial, OnTime.none⟩

theorem Port.OnTime.setProfile (h : pt.OnTime now) (number : BitVec 3) (pf : Profile) :
    (pt.setProfile number pf).OnTime now := by
  have hnum : ({ pt with profile := number } : Port).OnTime now := { h with }
  unfold Port.setProfile
  dsimp only
  split
  · exact hnum.bring pf _
  · exact hnum

/-! ## Records on time -/

/-- The deadlines that a record's stage awaits are on time (R42, R45). -/
structure Gather.OnTime (now : Time) (g : Gather) : Prop where
  idle : g.stage = .active → Machine.OnTime now g.idle
  lifetime : g.stage = .active → Machine.OnTime now g.lifetime
  draws : g.stage = .active → ∀ m ∈ g.roster, Machine.OnTime now m.drawDeadline
  linger : g.stage ≠ .active → Machine.OnTime now g.lingerAt

variable {g : Gather} {m : Member}

theorem Gather.OnTime.setMember (h : g.OnTime now) (hm : g.stage = .active → Machine.OnTime now m.drawDeadline) :
    (g.setMember m).OnTime now where
  idle := h.idle
  lifetime := h.lifetime
  draws hs x hx := by
    obtain ⟨y, hy, rfl⟩ := List.mem_map.1 hx
    split
    · exact hm hs
    · exact h.draws hs y hy
  linger := h.linger

theorem Gather.OnTime.reevaluate (h : g.OnTime now) (pf : Profile) (e : Nat) : (g.reevaluate pf e).OnTime now := by
  unfold Gather.reevaluate
  split
  · exact h
  · rename_i m hm
    have hmem := (Gather.mem_of_member? hm).1
    split
    · exact h
    · split
      · exact { h.setMember (m := { m with phase := .waiting }) fun hs => h.draws hs m hmem with }
      · exact h.setMember fun hs => h.draws hs m hmem

theorem Gather.OnTime.addMember (h : g.OnTime now) (pf : Profile) (e : Nat) (t : Token) (announced : Bool)
    (expected : Option Nat) : (g.addMember pf e t announced expected).OnTime now := by
  have hadd : ({ g with roster := g.roster ++ [Member.taken e t announced expected g.allowance] } : Gather).OnTime now := {
    h with
    draws := fun hs m hm => by
      rcases List.mem_append.1 hm with hm | hm
      · exact h.draws hs m hm
      · obtain rfl := List.mem_singleton.1 hm
        exact OnTime.none }
  unfold Gather.addMember
  dsimp only
  split
  · exact hadd.reevaluate pf e
  · exact hadd

theorem Gather.OnTime.finishMember (h : g.OnTime now) (m : Member) : (g.finishMember m).OnTime now :=
  { h.setMember (m := m.finish) fun _ => OnTime.none with }

theorem Gather.OnTime.lapseMember (h : g.OnTime now) (m : Member) : (g.lapseMember m).OnTime now :=
  { h.setMember (m := { m with phase := .lapsed, openLeft := 0, drawQueued := 0, drawOut := 0, drawDeadline := none })
      fun _ => OnTime.none with }

theorem Gather.OnTime.issue (h : g.OnTime now) (cells : Nat) (m : Member) : (g.issue cells m).OnTime now :=
  { h.setMember (m := m.issued cells) fun _ => OnTime.none with }

theorem Gather.OnTime.rearmIdle (h : g.OnTime now) (pf : Profile) : (g.rearmIdle pf now).OnTime now :=
  { h with idle := fun _ => onTime_armUnlessZero (toNat_le_longest _) }

theorem Gather.OnTime.reclass (h : g.OnTime now) (cls : Nat) : (g.reclass cls).OnTime now := by
  unfold Gather.reclass
  split
  · exact { h with }
  · exact { h with }

theorem Gather.OnTime.left (h : g.OnTime now) : g.left.OnTime now where
  idle _ := OnTime.none
  lifetime _ := OnTime.none
  draws _ m hm := by
    obtain ⟨y, -, rfl⟩ := List.mem_map.1 hm
    exact OnTime.none
  linger := h.linger

theorem Gather.lingering_onTime {g : Gather} (o : Ending) {duration : Nat} (hd : duration ≤ 65535000) :
    ({ g with stage := .linger o, lingerAt := some (after now duration) } : Gather).OnTime now where
  idle := nofun
  lifetime := nofun
  draws := nofun
  linger _ := onTime_after hd

theorem Member.charge_onTime (h : OnTime now m.drawDeadline) (pf : Profile) (c : Nat) :
    OnTime now (m.charge pf now c).drawDeadline := by
  show OnTime now (if _ then none else if _ then some (after now pf.drawLife) else m.drawDeadline)
  split
  · exact OnTime.none
  · split
    · exact onTime_after pf.drawLife_le
    · exact h

theorem Gather.OnTime.chargeOrTrim (h : g.OnTime now) (pf : Profile) (mode : Mode) (c : Nat) (last : Bool)
    (hm : m ∈ g.roster) : (g.chargeOrTrim pf now mode c last m).gather.OnTime now := by
  unfold Gather.chargeOrTrim
  split
  · dsimp only
    split
    · exact h.finishMember _
    · exact (h.setMember fun hs => Member.charge_onTime (h.draws hs m hm) pf c).reevaluate pf _
  · exact (h.setMember fun _ => OnTime.none).reevaluate pf _

theorem Gather.OnTime.handleFinished (h : g.OnTime now) (mode : Mode) (c : Nat) (hm : m ∈ g.roster) :
    (g.handleFinished mode c m).gather.OnTime now := by
  unfold Gather.handleFinished
  split
  · exact h
  · exact h.setMember fun hs => h.draws hs m hm

theorem Gather.OnTime.handleLapsed (h : g.OnTime now) (pf : Profile) (mode : Mode) (c : Nat) (last : Bool)
    (hm : m ∈ g.roster) : (g.handleLapsed pf mode c last m).gather.OnTime now := by
  unfold Gather.handleLapsed
  split
  · split
    · exact h.finishMember m
    · exact h
  · exact (h.setMember (m := m.revived) fun hs => h.draws hs m hm).reevaluate pf _

/-- The handling of an arrival arms at most its member's draw deadline (R78, R92). -/
theorem Gather.OnTime.handle (h : g.OnTime now) (pf : Profile) (mode : Mode) (c : Nat) (last : Bool)
    (hm : m ∈ g.roster) : (g.handle pf now mode c last m).gather.OnTime now := by
  unfold Gather.handle
  split
  · exact h.chargeOrTrim pf mode c last hm
  · exact h.chargeOrTrim pf mode c last hm
  · exact h.chargeOrTrim pf mode c last hm
  · exact h.handleFinished mode c hm
  · exact h.handleLapsed pf mode c last hm

end

/-! ## The state on time -/

/-- Every deadline whose expiry is still to be taken at `now` is on time, and every suspended dwell timer keeps at most the
longest duration. -/
structure State.OnTime (now : Time) (s : State) : Prop where
  timebase : s.timebase = now
  records : ∀ k g, s.gather? k = some g → g.OnTime now
  ports : ∀ p, p < 48 → (s.port p).OnTime now

/-- A state is Punctual exactly where its deadlines are on time at its timebase. -/
theorem State.punctual_iff (s : State) : s.Punctual ↔ s.OnTime s.timebase := by
  constructor
  · intro h
    refine ⟨rfl, fun k g hg => ?_, fun p hp => ⟨?_, fun d hd => h.deadlines d (.stale p d hp hd)⟩⟩
    · exact {
        idle := fun hs d hd => h.deadlines d (.idle k g d hg hs hd)
        lifetime := fun hs d hd => h.deadlines d (.lifetime k g d hg hs hd)
        draws := fun hs m hm d hd => h.deadlines d (.draw k g m d hg hs hm hd)
        linger := fun hs d hd => h.deadlines d (.linger k g d hg hs hd) }
    · cases hd : (s.port p).dwell with
      | absent => trivial
      | armed d =>
        rintro x ⟨⟩
        exact h.deadlines d (.dwell p d hp hd)
      | suspended r => exact h.remaining p r hp hd
  · intro h
    refine ⟨fun d hd => ?_, fun p r hp hr => ?_⟩
    · cases hd with
      | dwell p _ hp hd =>
        have := (h.ports p hp).dwell
        rw [hd] at this
        exact this d rfl
      | stale p _ hp hd => exact (h.ports p hp).stale d hd
      | idle k g _ hg hs hd => exact (h.records k g hg).idle hs d hd
      | lifetime k g _ hg hs hd => exact (h.records k g hg).lifetime hs d hd
      | draw k g m _ hg hs hm hd => exact (h.records k g hg).draws hs m hm d hd
      | linger k g _ hg hs hd => exact (h.records k g hg).linger hs d hd
    · have := (h.ports p hp).dwell
      rwa [hr] at this

section
variable {now : Time} {s t : State} {g g' : Gather} {k p : Nat}

/-- A change that reaches neither the timebase nor the slots nor the ports. -/
theorem State.OnTime.congr (h : s.OnTime now) (htime : t.timebase = s.timebase) (hslots : t.slots = s.slots)
    (hports : t.ports = s.ports) : t.OnTime now where
  timebase := htime.trans h.timebase
  records k g hg := h.records k g (by rwa [State.gather?, State.slot, hslots] at hg)
  ports p hp := by rw [State.port, hports]; exact h.ports p hp

theorem State.OnTime.setPort (h : s.OnTime now) {v : Port} (hv : p < 48 → v.OnTime now) : (s.setPort p v).OnTime now where
  timebase := h.timebase
  records := h.records
  ports q hq := by
    rw [State.port_setPort]
    split
    · rename_i hqp; exact hv (hqp ▸ hq)
    · exact h.ports q hq

/-- A change of a port that leaves its timers. -/
theorem State.OnTime.setDraws (h : s.OnTime now) {v : Port} (hdwell : v.dwell = (s.port p).dwell)
    (hstale : v.staleAt = (s.port p).staleAt) : (s.setPort p v).OnTime now :=
  h.setPort fun hp => ⟨hdwell ▸ (h.ports p hp).dwell, hstale ▸ (h.ports p hp).stale⟩

theorem State.OnTime.setGather (h : s.OnTime now) (hg : g.OnTime now) : (s.setGather k g).OnTime now where
  timebase := h.timebase
  records j x hx := by
    rw [State.gather?_setGather] at hx
    split at hx
    · exact Option.some.inj hx ▸ hg
    · exact h.records j x hx
  ports := h.ports

theorem State.OnTime.freeSlot (h : s.OnTime now) (k : Nat) (g : Gather) : (s.freeSlot k g).OnTime now where
  timebase := h.timebase
  records j x hx := by
    unfold State.freeSlot at hx
    rw [State.gather?_setSlot] at hx
    split at hx
    · cases hx
    · exact h.records j x hx
  ports := h.ports

theorem State.OnTime.offerTo (h : s.OnTime now) (sel : BitVec 6) (ev : MeterEvent) (inc : Nat) :
    (s.offerTo sel ev inc).OnTime now := h.congr (by simp) (by simp) (by simp)

theorem State.OnTime.offer (h : s.OnTime now) (p : Nat) (ev : MeterEvent) (inc : Nat) : (s.offer p ev inc).OnTime now :=
  h.congr (by simp) (by simp) (by simp)

theorem State.OnTime.mapMeters (h : s.OnTime now) (f : Meter → Meter) : (s.mapMeters f).OnTime now := h.congr rfl rfl rfl

theorem State.OnTime.raise (h : s.OnTime now) (src : AttnSource) : (s.raise src).OnTime now := h.congr rfl rfl rfl

theorem State.OnTime.giveBack (h : s.OnTime now) (p cells : Nat) : (s.giveBack p cells).OnTime now := h.setDraws rfl rfl

theorem State.OnTime.putGather (h : s.OnTime now) (k : Nat) (g : Gather) (hg : g'.OnTime now) :
    (s.putGather k g g').OnTime now := by
  have hdeq : (if g.queued && !keepsPlace g g' then s.dequeue g.port g.cls k else s).OnTime now := by
    split
    · exact h.setDraws rfl rfl
    · exact h
  unfold State.putGather
  dsimp only
  generalize (if g.queued && !keepsPlace g g' then s.dequeue g.port g.cls k else s) = u at hdeq ⊢
  split
  · exact State.OnTime.setGather (hdeq.setDraws rfl rfl) hg
  · exact hdeq.setGather hg

theorem State.OnTime.take (h : s.OnTime now) : s.take.2.OnTime now := by
  obtain ⟨-, htake⟩ | ⟨e, rest, f, -, -, htake⟩ := State.take_cases s <;> (rw [htake]; exact h.congr rfl rfl rfl)

/-! ## Endings and retirements -/

theorem State.OnTime.leaveActive (h : s.OnTime now) (k : Nat) (hg : g.OnTime now) : (s.leaveActive k g).OnTime now :=
  (h.putGather k g hg.left).giveBack _ _

theorem State.OnTime.endGather (h : s.OnTime now) (k : Nat) (hg : g.OnTime now) (o : Ending) :
    (s.endGather k g o).1.OnTime now := by
  have hleft := h.leaveActive k hg
  have hend : (if (s.profileOf g.port).lingerTime.toNat = 0 then (s.leaveActive k g).freeSlot k g
      else (s.leaveActive k g).setGather k { g.left with
        stage := .linger o
        lingerAt := some (after (s.leaveActive k g).timebase (s.profileOf g.port).lingerTime.toNat) }).OnTime now := by
    split
    · exact hleft.freeSlot k g
    · rw [hleft.timebase]
      exact hleft.setGather (Gather.lingering_onTime o (toNat_le_longest _))
  exact hend.offer _ _ _

theorem State.OnTime.retire (h : s.OnTime now) (k : Nat) : (s.retire k).1.OnTime now := by
  unfold State.retire
  split
  · exact h
  · rename_i g hg
    split
    · exact (h.leaveActive k (h.records k g hg)).freeSlot k g
    · exact h.freeSlot k g

theorem State.OnTime.retireAll (h : s.OnTime now) (ks : List Nat) : (s.retireAll ks).1.OnTime now := by
  have key : ∀ (ks : List Nat) (a : State × List Nat), a.1.OnTime now → (ks.foldl retireStep a).1.OnTime now := by
    intro ks
    induction ks with
    | nil => exact fun _ ha => ha
    | cons k ks ih =>
      refine fun a ha => ih _ ?_
      unfold retireStep
      split
      · exact ha
      · exact ha.retire k
  rw [State.retireAll_eq]
  exact key ks (s, []) h

/-! ## Passes -/

theorem State.headDraw_gather {d : Draw} (h : s.headDraw p = some d) : ∃ k, s.gather? k = some d.gather := by
  unfold State.headDraw at h
  repeat' split at h
  case h_2 hg _ _ _ _ _ _ =>
    obtain rfl := Option.some.inj h
    exact ⟨_, hg⟩
  all_goals cases h

theorem State.OnTime.issue (h : s.OnTime now) (p : Nat) {d : Draw} (hd : d.gather.OnTime now) :
    (s.issue p d).OnTime now := by
  have hset := (h.setDraws (p := p) (v := (s.port p).issued d) rfl rfl).setGather (k := d.slot)
    (hd.issue d.cells d.member)
  have hemq : ({ (s.setPort p ((s.port p).issued d)).setGather d.slot (d.gather.issue d.cells d.member) with
      emq := s.emq ++ [s.emissionOf p d] } : State).OnTime now := hset.congr rfl rfl rfl
  exact (hemq.offer _ _ _).offer _ _ _

theorem State.OnTime.drawPass (h : s.OnTime now) (p : Nat) : (s.drawPass p).OnTime now :=
  State.drawPass_keeps p (State.OnTime now)
    (fun _ _ ht hd _ _ => by
      obtain ⟨k, hk⟩ := State.headDraw_gather hd
      exact ht.issue p (ht.records k _ hk))
    (fun _ _ ht _ _ _ => ht.setDraws rfl rfl) s h

theorem State.OnTime.passIf (h : s.OnTime now) (call : Bool) (p : Nat) : (s.passIf call p).OnTime now :=
  State.passIf_keeps call p (State.OnTime now) (fun _ ht => ht.drawPass p) s h

theorem State.OnTime.passes (h : s.OnTime now) (called : List Nat) : (s.passes called).OnTime now :=
  State.passes_keeps called (State.OnTime now) (fun _ p _ _ ht => ht.drawPass p) s h

theorem State.OnTime.handTo (h : s.OnTime now) (p : Nat) : (s.handTo p).OnTime now :=
  State.OnTime.setDraws (s := { s with pointer := p }) (h.congr rfl rfl rfl) rfl rfl

theorem State.OnTime.handPlace (h : s.OnTime now) (p : Nat) (call : Bool) : (s.handPlace p call).OnTime now :=
  State.handPlace_keeps p call (State.OnTime now) (fun _ q _ _ ht => ht.handTo q) (fun _ q ht => ht.drawPass q) s h

theorem State.OnTime.serveAll (h : s.OnTime now) (called : List Nat) : (s.serveAll called).OnTime now :=
  State.serveAll_keeps called (State.OnTime now) (fun _ q _ _ ht => ht.handTo q) (fun _ q _ ht => ht.drawPass q) s h

/-! ## Departures and the link reset -/

theorem State.OnTime.valid (h : s.OnTime now) {e : Emission} {m : Member} (hv : s.validMember e = some (g, m)) :
    g.OnTime now ∧ m ∈ g.roster ∧ Machine.OnTime now m.drawDeadline := by
  obtain ⟨hg, -, ha, -, -, hm, -, -⟩ := State.validMember_iff.1 hv
  have hmem := (Gather.mem_of_member? hm).1
  have ht := h.records _ g hg
  exact ⟨ht, hmem, ht.draws ha m hmem⟩

theorem State.OnTime.depart (h : s.OnTime now) {e : Emission} {m : Member} (hg : g.OnTime now) :
    (s.depart e g m).OnTime now := by
  have hsent : ({ s with emq := s.emq.tail, credit := s.credit - 1, lklTx := e.words, nextTx := .answer } : State).OnTime
      now := h.congr rfl rfl rfl
  have hdep : ((g.setMember (m.departed (s.profileOf e.port) s.timebase)).reevaluate (s.profileOf e.port) m.entry).OnTime
      now := by
    rw [h.timebase]
    exact (hg.setMember fun _ => onTime_after (Profile.drawLife_le _)).reevaluate _ _
  exact (hsent.putGather e.slot g hdep).handPlace _ _

theorem State.OnTime.walkEntry {a : State × List Nat} (h : a.1.OnTime now) (e : Emission) :
    (Machine.walkEntry a e).1.OnTime now := by
  unfold Machine.walkEntry
  split
  · exact h
  · rename_i g m hv
    obtain ⟨hg, -, hm⟩ := h.valid hv
    have hun : Machine.OnTime now (m.unqueued (a.1.profileOf e.port) a.1.timebase).drawDeadline := by
      rw [h.timebase]
      unfold Member.unqueued
      dsimp only
      split
      · exact onTime_after (Profile.drawLife_le _)
      · exact hm
    exact (h.putGather e.slot g ((hg.setMember fun _ => hun).reevaluate _ _)).giveBack _ _

theorem State.OnTime.linkReset (h : s.OnTime now) : s.linkReset.OnTime now := by
  have key : ∀ (q : List Emission) (a : State × List Nat), a.1.OnTime now → (q.foldl Machine.walkEntry a).1.OnTime now := by
    intro q
    induction q with
    | nil => exact fun _ ha => ha
    | cons e q ih => exact fun a ha => ih _ (ha.walkEntry e)
  have hwalk : s.walk.1.OnTime now := (key s.emq (s, []) h).congr rfl rfl rfl
  have hempty : ({ s.walk.1.serveAll s.walk.2 with
      queryFifo := [], answerFifo := [], credit := 0, nextTx := .answer } : State).OnTime now :=
    (hwalk.serveAll s.walk.2).congr rfl rfl rfl
  exact hempty.raise _

end

end Sys2Proof.Machine

/-! Every command keeps the deadlines on time, and the timebase and the expiries on it (R10 to R13). -/

namespace Sys2Proof.Machine

section
variable {now : Time} {s t : State} {g : Gather} {k p : Nat}

/-! ## Queries -/

theorem State.OnTime.appendAnswer (h : s.OnTime now) (a : Answer) : (s.appendAnswer a).OnTime now := h.congr rfl rfl rfl

theorem State.OnTime.fault (h : s.OnTime now) (q : List Word) (status : Status) (parameter : BitVec 16) :
    (s.fault q status parameter).OnTime now := by
  have hcount : (s.countFault q status).OnTime now := by
    unfold State.countFault
    split
    · exact h.offerTo _ _ _
    · exact h.offerTo _ _ _
    · exact h.offer _ _ _
  exact State.OnTime.appendAnswer (s := { s.countFault q status with
    freeIndex := s.freeIndex + if isListing q then 1 else 0 }) (hcount.congr rfl rfl rfl) _

/-- A query command keeps the deadlines on time where its owner does. -/
theorem State.OnTime.takeQuery (h : s.OnTime now) (f : BitVec 4 → Bool) {owner : List Word → State → State}
    (how : ∀ q (u : State), u.OnTime now → (owner q u).OnTime now) : (s.takeQuery f owner).OnTime now := by
  have hpop : s.popQuery.OnTime now := h.congr rfl rfl rfl
  rcases State.takeQuery_cases s f owner with heq | ⟨-, q, -, ⟨status, parameter, heq⟩ | ⟨-, heq⟩⟩
  · rw [heq]; exact h
  · rw [heq]; exact hpop.fault _ _ _
  · rw [heq]; exact how q _ hpop

theorem State.OnTime.lookup (h : s.OnTime now) {p : Nat} {tag : Tag} (hl : s.lookupGather p tag = some (k, g)) :
    g.OnTime now := h.records k g (State.lookupGather_some hl).1

theorem State.OnTime.addListed {a : Adding} (h : a.state.OnTime now) (k : Nat) (x : Token × Nat) :
    (Machine.addListed k a x).state.OnTime now := by
  unfold Machine.addListed
  split
  · exact h
  · rename_i g hg
    split
    · exact h
    · split
      · have htake := h.take
        split
        · rename_i u hu; rw [hu] at htake; exact htake
        · rename_i e u hu
          rw [hu] at htake
          exact htake.putGather k g ((h.records k g hg).addMember _ _ _ _ _)
      · split
        · exact h.congr rfl rfl rfl
        · exact h

theorem State.OnTime.addAll (h : s.OnTime now) (k : Nat) (listed : List (Token × Nat)) :
    (s.addAll k listed).state.OnTime now := by
  have key : ∀ (l : List (Token × Nat)) (a : Adding), a.state.OnTime now →
      (l.foldl (Machine.addListed k) a).state.OnTime now := by
    intro l
    induction l with
    | nil => exact fun _ ha => ha
    | cons x l ih => exact fun a ha => ih _ (ha.addListed k x)
  exact key listed ⟨s, false, 0⟩ h

theorem State.OnTime.newGather (h : s.OnTime now) (q : List Word) : (s.newGather q).OnTime now where
  idle _ := by
    rw [← h.timebase]
    exact onTime_armUnlessZero (toNat_le_longest _)
  lifetime _ := by
    rw [← h.timebase]
    refine onTime_armUnlessZero ?_
    have := (s.profileOf (portOf q)).maxLifetime.isLt
    omega
  draws := nofun
  linger hs := absurd rfl hs

theorem State.OnTime.openFresh (h : s.OnTime now) (q : List Word) : (s.openFresh q).OnTime now := by
  unfold State.openFresh
  split
  · exact ((h.offer _ _ _).raise _).fault _ _ _
  · rename_i k _
    have hset := h.setGather (k := k) (h.newGather q)
    exact (((hset.addAll k (listedOf q)).offer _ _ _).passIf _ _).appendAnswer _

theorem State.OnTime.openGather (h : s.OnTime now) (q : List Word) : (s.openGather q).OnTime now := by
  unfold State.openGather
  split
  · exact h.openFresh q
  · split
    · exact h.fault _ _ _
    · exact (h.freeSlot _ _).openFresh q

theorem State.OnTime.extendGather (h : s.OnTime now) (q : List Word) : (s.extendGather q).OnTime now := by
  unfold State.extendGather
  split
  · exact h.fault _ _ _
  · rename_i k g hl
    split
    · exact h.fault _ _ _
    · have hg := h.lookup hl
      have hext : ({ g with announced := extendedCount g.announced (announcedOf q) } : Gather).OnTime now := { hg with }
      have hset : (s.setGather k (({ g with announced := extendedCount g.announced (announcedOf q) } :
          Gather).rearmIdle (s.profileOf g.port) s.timebase)).OnTime now := by
        rw [h.timebase]; exact h.setGather (hext.rearmIdle _)
      exact ((hset.addAll k (listedOf q)).passIf _ _).appendAnswer _

theorem State.OnTime.reclassGather (h : s.OnTime now) (q : List Word) : (s.reclassGather q).OnTime now := by
  unfold State.reclassGather
  split
  · exact h.fault _ _ _
  · rename_i k g hl
    split
    · exact h.fault _ _ _
    · have hnew : ((g.reclass (classOf q)).rearmIdle (s.profileOf g.port) s.timebase).OnTime now := by
        rw [h.timebase]; exact ((h.lookup hl).reclass _).rearmIdle _
      exact ((h.putGather k g hnew).passIf _ _).appendAnswer _

theorem State.OnTime.closeGather (h : s.OnTime now) (q : List Word) : (s.closeGather q).OnTime now := by
  unfold State.closeGather
  split
  · exact h.fault _ _ _
  · rename_i k g hl
    split
    · exact h.appendAnswer _
    · exact ((h.endGather k (h.lookup hl) _).passIf _ _).appendAnswer _

theorem State.OnTime.answerTable (h : s.OnTime now) (q : List Word) (v : Verdict) (b : Basis) (parameter : Nat) :
    (s.answerTable q v b parameter).OnTime now := ((h.offer _ _ _).offer _ _ _).appendAnswer _

theorem State.OnTime.arriveMember (h : s.OnTime now) (k : Nat) (hg : g.OnTime now) {m : Member} (hm : m ∈ g.roster)
    (q : List Word) (call : Bool) : (s.arriveMember q k g m call).OnTime now := by
  obtain rfl := h.timebase
  have hnew := (hg.handle (s.profileOf g.port) (s.port g.port).mode (cellsOf (bytesOf q)) (lastOf q) hm).rearmIdle
    (s.profileOf g.port)
  have hput := (h.putGather k g hnew).giveBack g.port
    (g.handle (s.profileOf g.port) s.timebase (s.port g.port).mode (cellsOf (bytesOf q)) (lastOf q) m).returned
  unfold State.arriveMember
  refine State.OnTime.appendAnswer (State.OnTime.passIf (State.OnTime.offer ?_ _ _ _) _ _) _
  split
  · exact hput.endGather k hnew _
  · exact hput

theorem State.OnTime.arriveUnjoined (h : s.OnTime now) (k : Nat) (hg : g.OnTime now) (q : List Word) :
    (s.arriveUnjoined q k g).OnTime now := by
  have hnew : (g.rearmIdle (s.profileOf g.port) s.timebase).OnTime now := by rw [h.timebase]; exact hg.rearmIdle _
  exact State.OnTime.answerTable (h.setGather hnew) _ _ _ _

theorem State.OnTime.arriveRoster (h : s.OnTime now) (k : Nat) (hg : g.OnTime now) (q : List Word) :
    (s.arriveRoster q k g).OnTime now := by
  unfold State.arriveRoster
  split
  · rename_i m hm
    exact h.arriveMember k hg (Gather.mem_of_byToken hm).1 q _
  · split
    · have htake := h.take
      split
      · rename_i u hu
        rw [hu] at htake
        exact State.OnTime.arriveUnjoined htake k hg q
      · rename_i e u hu
        rw [hu] at htake
        have hjoin := hg.addMember (u.profileOf g.port) e (tokenOf q) false none
        dsimp only
        split
        · exact htake
        · rename_i m hm
          exact (State.OnTime.putGather htake k g hjoin).arriveMember k hjoin (Gather.mem_of_byToken hm).1 q _
    · refine State.OnTime.arriveUnjoined ?_ k hg q
      split
      · exact h.congr rfl rfl rfl
      · exact h

theorem State.OnTime.classify (h : s.OnTime now) (q : List Word) : (s.classify q).OnTime now := by
  unfold State.classify
  split
  · exact (h.offer _ _ _).appendAnswer _
  · split
    · exact h.answerTable _ _ _ _
    · rename_i k g hl
      split
      · exact h.answerTable _ _ _ _
      · exact h.arriveRoster k (h.lookup hl) q

/-! ## Ports, expiries and table writes -/

theorem State.OnTime.applyPort (h : s.OnTime now) (p : Nat) (old : Port) {new : Port} (hnew : p < 48 → new.OnTime now) :
    (s.applyPort p old new).OnTime now := by
  have hset := h.setPort hnew
  have henter : (if entersSurge old new then (s.setPort p new).surgeEntry p else s.setPort p new).OnTime now := by
    split
    · exact ((hset.mapMeters _).offer _ _ _).raise _
    · exact hset
  unfold State.applyPort
  refine State.OnTime.passIf ?_ _ _
  split
  · exact henter.mapMeters _
  · exact henter

theorem State.OnTime.enableAt (h : s.OnTime now) (p : Nat) : (s.enableAt p).OnTime now := by
  have hset : (s.setPort p ((s.port p).enable (s.profileOf p) s.timebase)).OnTime now := by
    rw [h.timebase]; exact h.setPort fun _ => Port.enable_onTime _ _
  unfold State.enableAt
  dsimp only
  split
  · exact h
  · split
    · exact hset.mapMeters _
    · exact hset

theorem State.OnTime.disableAt (h : s.OnTime now) (p : Nat) : (s.disableAt p).OnTime now := by
  unfold State.disableAt
  split
  · exact ((h.retireAll _).passes _).setPort fun _ => Port.disable_onTime _
  · exact h

theorem State.OnTime.finishCommand (h : s.OnTime now) (code port : BitVec 8) (tag : Tag) (r : Result) :
    (s.finishCommand code port tag r).OnTime now := h.congr rfl rfl rfl

theorem State.OnTime.advance (h : s.OnTime now) : s.advance.OnTime now := h.congr rfl rfl rfl

/-- A write of a port's settings and the pass of its notice (R115, R157). -/
theorem State.OnTime.writePort (h : s.OnTime now) {v : Port} (hv : p < 48 → v.OnTime now) (call : Bool) :
    ((s.advance.setPort p v).passIf call p).OnTime now := (h.advance.setPort hv).passIf _ _

theorem State.OnTime.reclaim (h : s.OnTime now) (k : Nat) (hg : g.OnTime now) (m : Member) :
    (s.reclaim k g m).OnTime now := by
  have hnew : (if decide ((s.profileOf g.port).lapses ≤ m.reclaimed.lapses) then g.lapseMember m.reclaimed
      else (g.setMember m.reclaimed).reevaluate (s.profileOf g.port) m.entry).OnTime now := by
    split
    · exact hg.lapseMember _
    · exact (hg.setMember fun _ => OnTime.none).reevaluate _ _
  unfold State.reclaim
  refine State.OnTime.passIf ?_ _ _
  generalize (if decide ((s.profileOf g.port).lapses ≤ m.reclaimed.lapses) = true then g.lapseMember m.reclaimed
    else (g.setMember m.reclaimed).reevaluate (s.profileOf g.port) m.entry) = g' at hnew ⊢
  have hput := ((h.putGather k g hnew).giveBack g.port m.drawOut).offer g.port .drawsReclaimed 1
  split
  · exact hput.endGather k hnew _
  · exact hput

theorem State.OnTime.clampPorts (h : s.OnTime now) (number : Nat) : (s.clampPorts number).OnTime now := by
  obtain ⟨u, called, hfold, hframe, -, hport⟩ := State.clampPorts_fold s number 48
  have hu : u.OnTime now := {
    timebase := by rw [hframe]; exact h.timebase
    records := fun k g hg => h.records k g (by rwa [hframe] at hg)
    ports := fun q hq => by
      rw [hport]
      split
      · exact (h.ports q hq).bring _ _
      · exact h.ports q hq }
  unfold State.clampPorts
  rw [show Config.ports = 48 from rfl, hfold]
  exact hu.passes called

/-! ## The commands -/

theorem State.reset_onTime : State.reset.OnTime 0#32 where
  timebase := rfl
  records k _ hg := by rw [State.reset_gather? k] at hg; cases hg
  ports p _ := State.reset_port p ▸ Port.reset_onTime

/-- A deadline that is not pressing is still on time 1 µs later (R12). -/
theorem onTime_tick {deadline : Option Time} (h : Machine.OnTime now deadline)
    (hp : ∀ d, deadline = some d → pressing now d = false) : Machine.OnTime (now + 1#32) deadline := by
  intro d hd
  have hlast := h d hd
  have hnot : ¬((now - d).toNat < 2 ^ 31 ∧ now ≠ d) := fun hc => by
    have := hp d hd
    rw [(pressing_iff now d).2 hc] at this
    cases this
  by_cases heq : now = d
  · subst heq
    bv_omega
  · have hlate : ¬(now - d).toNat < 2 ^ 31 := fun hlt => hnot ⟨hlt, heq⟩
    bv_omega

/-- The timebase advances where no deadline is pressing. -/
theorem State.OnTime.tick (h : s.OnTime now) (hp : s.deadlines.any (pressing s.timebase) = false) :
    ({ s with timebase := s.timebase + 1#32 } : State).OnTime (now + 1#32) := by
  have hcalm : ∀ d, s.Awaits d → pressing now d = false := fun d hd => by
    have := List.any_eq_false.1 hp d ((State.mem_deadlines s d).2 hd)
    rw [h.timebase] at this
    simpa using this
  refine ⟨by rw [← h.timebase], fun k g hg => ?_, fun p hpp => ⟨?_, ?_⟩⟩
  · have ht := h.records k g hg
    exact {
      idle := fun hs => onTime_tick (ht.idle hs) fun d hd => hcalm d (.idle k g d hg hs hd)
      lifetime := fun hs => onTime_tick (ht.lifetime hs) fun d hd => hcalm d (.lifetime k g d hg hs hd)
      draws := fun hs m hm => onTime_tick (ht.draws hs m hm) fun d hd => hcalm d (.draw k g m d hg hs hm hd)
      linger := fun hs => onTime_tick (ht.linger hs) fun d hd => hcalm d (.linger k g d hg hs hd) }
  · have ht := (h.ports p hpp).dwell
    show (s.port p).dwell.OnTime _
    cases hd : (s.port p).dwell with
    | absent => trivial
    | armed d =>
      rw [hd] at ht
      exact onTime_tick ht fun x hx => Option.some.inj hx ▸ hcalm d (.dwell p d hpp hd)
    | suspended r => rwa [hd] at ht
  · exact onTime_tick (h.ports p hpp).stale fun d hd => hcalm d (.stale p d hpp hd)

/-- Every command but part reset and the advance keeps the deadlines on time at the timebase, which it leaves. -/
theorem State.OnTime.exec_at (h : s.OnTime now) (c : Instr) (hreset : c ≠ .partReset) (htick : c ≠ .timebaseAdvance) :
    ∃ t, Machine.exec c s = .next t ∧ t.OnTime now := by
  obtain rfl := h.timebase
  have apart : ∀ {t : State}, t.timebase = s.timebase → t.slots = s.slots → t.ports = s.ports → t.OnTime s.timebase :=
    fun ht hs hp => h.congr ht hs hp
  cases c with
  | partReset => exact absurd rfl hreset
  | timebaseAdvance => exact absurd rfl htick
  | lossOfFraming =>
    refine ⟨_, rfl, ?_⟩
    split
    · exact State.OnTime.congr h.linkReset rfl rfl rfl
    · exact h
  | framingAcquired => exact ⟨_, rfl, apart rfl rfl rfl⟩
  | queryArrival words =>
    refine ⟨_, rfl, ?_⟩
    split
    · split
      · exact apart rfl rfl rfl
      · exact h.raise _
    · exact h
  | undefinedSignal words => exact ⟨s, rfl, h⟩
  | openQuery => exact ⟨_, rfl, h.takeQuery _ fun q _ hu => hu.openGather q⟩
  | extendQuery => exact ⟨_, rfl, h.takeQuery _ fun q _ hu => hu.extendGather q⟩
  | reclassQuery => exact ⟨_, rfl, h.takeQuery _ fun q _ hu => hu.reclassGather q⟩
  | closeQuery => exact ⟨_, rfl, h.takeQuery _ fun q _ hu => hu.closeGather q⟩
  | arriveQuery => exact ⟨_, rfl, h.takeQuery _ fun q _ hu => hu.classify q⟩
  | undefinedQuery => exact ⟨_, rfl, h.takeQuery _ fun _ _ hu => hu⟩
  | answer =>
    refine ⟨_, rfl, ?_⟩
    split
    · exact h
    · split
      · exact apart rfl rfl rfl
      · exact h
  | drawEmission =>
    refine ⟨_, rfl, ?_⟩
    split
    · exact h
    · split
      · exact h
      · rename_i g m hv
        split
        · exact h.depart (h.valid hv).1
        · exact h
  | staleDiscard =>
    refine ⟨_, rfl, ?_⟩
    split
    · exact h
    · split
      · exact State.OnTime.handPlace (s := { s with emq := s.emq.tail }) (apart rfl rfl rfl) 0 false
      · exact h
  | emitCredit count =>
    refine ⟨_, rfl, ?_⟩
    split
    · exact apart rfl rfl rfl
    · exact h
  | linkReset =>
    refine ⟨_, rfl, ?_⟩
    split
    · exact h.linkReset
    · exact h
  | report port depth =>
    refine ⟨_, rfl, ?_⟩
    split
    · exact h.applyPort _ _ fun hp => (h.ports _ hp).report _ _
    · exact h
  | dwellExpiry port =>
    refine ⟨_, rfl, ?_⟩
    split
    · exact h.applyPort _ _ fun hp => (h.ports _ hp).dwellFall _
    · exact h
  | staleExpiry port =>
    refine ⟨_, rfl, ?_⟩
    split
    · exact (h.setPort fun hp => (h.ports _ hp).goStale).raise _
    · exact h
  | drawDeadlineExpiry slot position =>
    refine ⟨_, rfl, ?_⟩
    split
    · exact h
    · rename_i g hg
      split
      · exact h
      · split
        · exact h.reclaim slot (h.records slot g hg) _
        · exact h
  | idleExpiry slot =>
    refine ⟨_, rfl, ?_⟩
    split
    · exact h
    · rename_i g hg
      split
      · exact (h.endGather slot (h.records slot g hg) _).passIf _ _
      · exact h
  | lifetimeExpiry slot =>
    refine ⟨_, rfl, ?_⟩
    split
    · exact h
    · rename_i g hg
      split
      · exact (h.endGather slot (h.records slot g hg) _).passIf _ _
      · exact h
  | lingerExpiry slot =>
    refine ⟨_, rfl, ?_⟩
    split
    · exact h
    · split
      · exact h.freeSlot _ _
      · exact h
  | enablePort port tag =>
    refine ⟨_, rfl, ?_⟩
    split
    · exact (h.enableAt _).finishCommand _ _ _ _
    · exact h.finishCommand _ _ _ _
  | disablePort port tag =>
    refine ⟨_, rfl, ?_⟩
    split
    · exact (h.disableAt _).finishCommand _ _ _ _
    · exact h.finishCommand _ _ _ _
  | retireGather port tag =>
    refine ⟨_, rfl, ?_⟩
    split
    · split
      · exact h.finishCommand _ _ _ _
      · exact ((h.retire _).passIf _ _).finishCommand _ _ _ _
    · exact h.finishCommand _ _ _ _
  | purgeAll port tag => exact ⟨_, rfl, ((h.retireAll s.slots.keys).passes _).finishCommand _ _ _ _⟩
  | metersStart port tag => exact ⟨_, rfl, (h.mapMeters _).finishCommand _ _ _ _⟩
  | metersStop port tag => exact ⟨_, rfl, (h.mapMeters _).finishCommand _ _ _ _⟩
  | badCommand code port tag =>
    refine ⟨_, rfl, ?_⟩
    split
    · exact h.finishCommand _ _ _ _
    · exact h
  | profileWrite value =>
    refine ⟨_, rfl, ?_⟩
    split
    · rename_i number w _
      have hwrite : ((s.setProfile number ((s.profileAt number).store w value)).advance).OnTime s.timebase :=
        apart rfl rfl rfl
      dsimp only
      split
      · rename_i hw
        subst hw
        exact hwrite.clampPorts number
      · exact hwrite
    · exact h
  | profileNumberWrite value =>
    refine ⟨_, rfl, ?_⟩
    split
    · exact h.writePort (fun hp => (h.ports _ hp).setProfile _ _) _
    · exact h
  | adminFloorWrite value =>
    refine ⟨_, rfl, ?_⟩
    split
    · rename_i p _
      exact h.writePort (v := Port.refloor (s.profileOf p) { s.port p with adminFloor := field value 0 3 })
        (fun hp => { h.ports p hp with }) _
    · exact h
  | portStatusRead =>
    refine ⟨_, rfl, ?_⟩
    split
    · exact State.OnTime.setDraws (s := s.readWindow) (apart rfl rfl rfl) rfl rfl
    · exact h
  | exemptWrite value =>
    refine ⟨_, rfl, ?_⟩
    split
    · exact apart rfl rfl rfl
    · exact h
  | meterConfigWrite value =>
    refine ⟨_, rfl, ?_⟩
    split
    · exact apart rfl rfl rfl
    · exact h
  | meterCountWrite value =>
    refine ⟨_, rfl, ?_⟩
    split
    · exact apart rfl rfl rfl
    · exact apart rfl rfl rfl
    · exact h
  | meterFlagClear value =>
    refine ⟨_, rfl, ?_⟩
    split
    · exact apart rfl rfl rfl
    · exact h
  | tableWindowRead =>
    refine ⟨_, rfl, ?_⟩
    split
    · exact h
    · exact apart rfl rfl rfl
  | attnSummaryWrite value => exact ⟨_, rfl, apart rfl rfl rfl⟩
  | attnEnableWrite value => exact ⟨_, rfl, apart rfl rfl rfl⟩
  | poolLowMarkWrite value => exact ⟨_, rfl, apart rfl rfl rfl⟩
  | registerWrite index lanes value =>
    refine ⟨_, rfl, ?_⟩
    split
    · split
      · exact apart rfl rfl rfl
      · split
        · exact h.advance
        · exact h
    · exact h

/-- Every command keeps the deadlines on time at the timebase it leaves. -/
theorem State.OnTime.exec (h : s.OnTime s.timebase) (c : Instr) : ∃ t, exec c s = .next t ∧ t.OnTime t.timebase := by
  by_cases hreset : c = .partReset
  · subst hreset
    exact ⟨_, rfl, State.reset_onTime.congr rfl rfl rfl⟩
  · by_cases htick : c = .timebaseAdvance
    · subst htick
      refine ⟨_, rfl, ?_⟩
      split
      · exact h
      · rename_i hp
        exact h.tick (Bool.eq_false_iff.2 hp)
    · obtain ⟨t, ht, hon⟩ := h.exec_at c hreset htick
      exact ⟨t, ht, hon.timebase.symm ▸ hon⟩

end

/-! ## The timebase -/

/-- The timebase advances exactly where no deadline is pressing (R10, R12). -/
theorem exec_timebaseAdvance (s : State) : exec .timebaseAdvance s =
    .next (if s.deadlines.any (pressing s.timebase) then s else { s with timebase := s.timebase + 1#32 }) := rfl

/-- A step keeps the deadlines on time: it carries out the front command, from the same state but for the waiting
commands. -/
theorem State.Punctual.step {s t : State} (h : s.Punctual) (hstep : Machine.step s = .next t) : t.Punctual := by
  have hs := (State.punctual_iff s).1 h
  unfold Machine.step at hstep
  split at hstep
  · exact Host.Outcome.next.inj hstep ▸ h
  · rename_i c rest _
    have hwait : ({ s with pending := rest } : State).OnTime s.timebase := hs.congr rfl rfl rfl
    obtain ⟨u, hu, hon⟩ := State.OnTime.exec (s := { s with pending := rest }) hwait c
    rw [hstep] at hu
    obtain rfl := Host.Outcome.next.inj hu
    exact (State.punctual_iff t).2 hon

theorem State.reset_awaits (d : Time) : ¬State.reset.Awaits d := by
  intro h
  cases h with
  | dwell p _ _ hd => rw [State.reset_port] at hd; cases hd
  | stale p _ _ hd => rw [State.reset_port] at hd; cases hd
  | idle k _ _ hg => rw [State.reset_gather? k] at hg; cases hg
  | lifetime k _ _ hg => rw [State.reset_gather? k] at hg; cases hg
  | draw k _ _ _ hg => rw [State.reset_gather? k] at hg; cases hg
  | linger k _ _ hg => rw [State.reset_gather? k] at hg; cases hg

/-- A deadline that is on time was reached at most 1 µs ago or is ahead by at most the longest duration (R11, R12). -/
theorem OnTime.near {now d : Time} (h : OnTime now (some d)) :
    (now - d).toNat ≤ 1 ∨ (2 ^ 31 ≤ (now - d).toNat ∧ (d - now).toNat ≤ 65535000) := by
  have hd := h d rfl
  bv_omega

/-- A deadline `n` µs after a point, `j` µs after that point (R10, R11). -/
theorem reached_after {now : Time} {n j : Nat} (hn : n ≤ 65535000) (hj : j < 2 ^ 31) :
    reached (now + BitVec.ofNat 32 j) (after now n) = true ↔ n ≤ j := by
  have hdiff : now + BitVec.ofNat 32 j - after now n = BitVec.ofNat 32 j - BitVec.ofNat 32 n := by
    unfold after
    generalize BitVec.ofNat 32 j = x
    generalize BitVec.ofNat 32 n = y
    bv_omega
  rw [reached, decide_eq_true_iff, hdiff, BitVec.toNat_sub, BitVec.toNat_ofNat, BitVec.toNat_ofNat]
  omega

theorem reached_add {d : Time} {j : Nat} (hj : j < 2 ^ 31) : reached (d + BitVec.ofNat 32 j) d = true := by
  have hdiff : d + BitVec.ofNat 32 j - d = BitVec.ofNat 32 j := by
    generalize BitVec.ofNat 32 j = x
    bv_omega
  rw [reached, decide_eq_true_iff, hdiff, BitVec.toNat_ofNat]
  omega

theorem reached_eq_false {now d : Time} (h : 2 ^ 31 ≤ (now - d).toNat) : reached now d = false :=
  decide_eq_false (Nat.not_lt.2 h)

theorem due_eq_false {now : Time} {deadline : Option Time} (h : ∀ d, deadline = some d → 2 ^ 31 ≤ (now - d).toNat) :
    due now deadline = false := by
  cases deadline with
  | none => rfl
  | some d => exact reached_eq_false (h d rfl)

theorem Timer.isDue_eq_false {now : Time} {t : Timer} (h : ∀ d, t = .armed d → 2 ^ 31 ≤ (now - d).toNat) :
    t.isDue now = false := by
  cases t with
  | absent => rfl
  | armed d => exact reached_eq_false (h d rfl)
  | suspended r => rfl

/-- Settles O47: the deadlines stay on time (`State.OnTime`), and an expiry whose deadline is not due is no event. -/
theorem timebaseAndDeadlines : Obligations.TimebaseAndDeadlines := by
  refine ⟨fun s h => ?_, fun s d hd hne hlt => ?_, ⟨State.reset_awaits, ?_, fun s t h hstep => h.step hstep, ?_⟩,
    fun now n j _ hn hj => ⟨reached_after hn hj, reached_add hj⟩, fun s => ⟨fun k g hg => ⟨?_, ?_, ?_, ?_⟩,
      fun p => ⟨?_, ?_⟩⟩⟩
  · have hcalm : s.deadlines.any (pressing s.timebase) = false := by
      refine List.any_eq_false.2 fun d hd hp => ?_
      obtain ⟨hlt, hne⟩ := (pressing_iff _ _).1 hp
      rcases h d ((State.mem_deadlines s d).1 hd) with heq | hahead
      · exact hne heq
      · omega
    rw [exec_timebaseAdvance, hcalm]
    rfl
  · have hpress : s.deadlines.any (pressing s.timebase) = true :=
      List.any_eq_true.2 ⟨d, (State.mem_deadlines s d).2 hd, (pressing_iff _ _).2 ⟨hlt, hne⟩⟩
    rw [exec_timebaseAdvance, hpress]
    rfl
  · exact (State.punctual_iff _).2 State.reset_onTime
  · intro s d h hd
    exact OnTime.near fun x hx => Option.some.inj hx ▸ h.deadlines d hd
  · intro h
    simp [exec, execIdleExpiry, hg, due_eq_false h]
  · intro h
    simp [exec, execLifetimeExpiry, hg, due_eq_false h]
  · intro h
    simp [exec, execLingerExpiry, hg, due_eq_false h]
  · intro i m hm h
    simp [exec, execDrawDeadlineExpiry, hg, hm, due_eq_false h]
  · intro h
    simp [exec, execStaleExpiry, due_eq_false h]
  · intro h
    simp [exec, execDwellExpiry, Timer.isDue_eq_false h]

end Sys2Proof.Machine

/-! OPEN of a key that is not indexed: the listed entries as the pool has room for them, and the record, the pool, the class
queue, the attention summary and the answer (R49 to R54, R70 to R72, R125). -/

namespace Sys2Proof.Machine

/-! ## The roster of listed entries -/

/-- The record `g` with the listed entries `xs` on its roster, on the pool entries at the head of `es` (R51, R72). -/
def Gather.listing (g : Gather) (es : List Nat) (xs : List (Token × Nat)) : Gather :=
  { g with
    roster := List.zipWith (Member.listed g.allowance) es xs
    ring := if g.allowance = 0 then (List.zipWith (Member.listed g.allowance) es xs).map Member.entry else [] }

section
variable {g : Gather} {e : Nat} {es rest : List Nat} {x : Token × Nat} {xs ys : List (Token × Nat)}

theorem zipWith_listed_tokens (a : Nat) (h : xs.length ≤ es.length) :
    (List.zipWith (Member.listed a) es xs).map Member.token = xs.map Prod.fst := by
  induction xs generalizing es with
  | nil => simp
  | cons x xs ih =>
    cases es with
    | nil => simp at h
    | cons e es => simpa [Member.listed] using ih (by simpa using h)

theorem zipWith_listed_entries (a : Nat) (es : List Nat) (xs : List (Token × Nat)) :
    (List.zipWith (Member.listed a) es xs).map Member.entry = es.take xs.length := by
  induction xs generalizing es with
  | nil => simp
  | cons x xs ih =>
    cases es with
    | nil => simp
    | cons e es => simpa [Member.listed] using ih es

theorem zipWith_append_singleton {α β γ : Type} (f : α → β → γ) {as rest : List α} {a : α} (bs : List β) (b : β)
    (h : as.drop bs.length = a :: rest) : List.zipWith f as (bs ++ [b]) = List.zipWith f as bs ++ [f a b] := by
  induction bs generalizing as with
  | nil => rw [show as = a :: rest from h]; simp
  | cons y bs ih =>
    cases as with
    | nil => simp at h
    | cons c as => simpa using ih (by simpa using h)

/-- A token is on the roster exactly where it is one of the entries added. -/
theorem Gather.byToken_listing (h : xs.length ≤ es.length) (t : Token) :
    ((g.listing es xs).byToken t).isSome = true ↔ t ∈ xs.map Prod.fst := by
  rw [← zipWith_listed_tokens g.allowance h]
  simp [Gather.byToken, Gather.listing, List.find?_isSome, -List.map_zipWith]

theorem Gather.listing_length (h : xs.length ≤ es.length) : (g.listing es xs).roster.length = xs.length := by
  simp [Gather.listing, h]

/-- The addition of a listed entry on the next free pool entry (R51). -/
theorem Gather.addMember_listing (ha : g.stage = .active) (hn : es.Nodup) (hd : es.drop xs.length = e :: rest)
    (pf : Profile) : (g.listing es xs).addMember pf e x.1 true (if x.2 = 0 then none else some x.2) =
      g.listing es (xs ++ [x]) := by
  have hfresh : e ∉ es.take xs.length := by
    rw [← List.take_append_drop xs.length es, hd] at hn
    exact fun hin => (List.nodup_append.1 hn).2.2 e hin e List.mem_cons_self rfl
  have hentries := zipWith_listed_entries g.allowance es xs
  have hroster : ∀ m ∈ (g.listing es xs).roster, m.entry ≠ e := fun m hm he =>
    hfresh (hentries ▸ he ▸ List.mem_map_of_mem hm)
  have hring : e ∉ (g.listing es xs).ring := by
    show e ∉ if g.allowance = 0 then (List.zipWith (Member.listed g.allowance) es xs).map Member.entry else []
    rw [hentries]
    split
    · exact hfresh
    · exact List.not_mem_nil
  rw [Gather.addMember_eq pf e x.1 true _ (g.listing es xs) ha hroster hring]
  unfold Gather.listing
  rw [zipWith_append_singleton _ xs x hd]
  by_cases h0 : g.allowance = 0 <;> simp [h0, Member.taken, Member.listed]

theorem Gather.queued_listing (ha : g.stage = .active) (hs : g.suspended = false) (h : xs.length ≤ es.length) :
    (g.listing es xs).queued = decide (g.allowance = 0 ∧ xs ≠ []) := by
  have hring : (g.listing es xs).ring.isEmpty = decide (¬(g.allowance = 0 ∧ xs ≠ [])) := by
    show (if g.allowance = 0 then (List.zipWith (Member.listed g.allowance) es xs).map Member.entry else []).isEmpty = _
    rw [zipWith_listed_entries]
    by_cases h0 : g.allowance = 0
    · cases xs with
      | nil => simp [h0]
      | cons x xs =>
        cases es with
        | nil => simp at h
        | cons e es => simp [h0]
    · simp [h0]
  simp [Gather.queued, show (g.listing es xs).stage = .active from ha, show (g.listing es xs).suspended = false from hs,
    hring]

/-! ## One listed entry at a time -/

/-- The part of a state that the adding of `taken` listed entries to the record `g` of slot `k` changes: the slots and the
free list, the class queue that the record joins where its allowance is 0, and POOL_LOW (R51, R71, R125). -/
def State.adding (k : Nat) (g : Gather) (taken : Nat) (refused : Bool) (slots : Table Slot) (free : List Run) (s : State) :
    State :=
  { s with
    slots := slots
    free := free
    ports := if g.allowance = 0 ∧ 0 < taken then (s.enqueue g.port g.cls k).ports else s.ports
    attn := s.attnAfterTakes taken refused }

/-- What stands after the listed entries `ys`, each of another token, have been tried for the record `g` of slot `k`: those
for which the pool had room have been added. -/
structure Adding.Lists (s : State) (k : Nat) (g : Gather) (ys : List (Token × Nat)) (a : Adding) : Prop where
  record : a.state.slot k =
    ⟨(s.slot k).generation, some (g.listing (freeEntries s.free) (ys.take (freeEntries s.free).length))⟩
  others : ∀ j, j ≠ k → a.state.slot j = s.slot j
  free : freeEntries a.state.free =
    (freeEntries s.free).drop (ys.take (freeEntries s.free).length).length
  frame : ∃ slots free, a.state = s.adding k g (ys.take (freeEntries s.free).length).length
    (decide ((ys.take (freeEntries s.free).length).length < ys.length)) slots free
  call : a.call = decide (g.allowance = 0 ∧ ys.take (freeEntries s.free).length ≠ [])
  accepted : a.accepted = (ys.take (freeEntries s.free).length).length

variable {s : State} {k n : Nat} {a : Adding}

/-- A refused take after `n` takes (R71). -/
theorem State.attnAfterTakes_refused (s : State) (n : Nat) (refused : Bool) :
    (if decide (0 < s.poolLowMark) then s.attnAfterTakes n refused ||| AttnSource.poolLow.bit
      else s.attnAfterTakes n refused) = s.attnAfterTakes n true := by
  have hbit : AttnSource.poolLow.bit = 0x20#7 := rfl
  have hor : s.attn ||| 0x20#7 ||| 0x20#7 = s.attn ||| 0x20#7 := by rw [BitVec.or_assoc, BitVec.or_self]
  unfold State.attnAfterTakes
  rw [hbit]
  by_cases hmark : 0 < s.poolLowMark
  · simp only [hmark, decide_true, ite_true, and_self, or_true]
    split
    · exact hor
    · rfl
  · simp [hmark]

/-- A take after `n` takes, none of them refused, that leaves `left` entries free (R71). -/
theorem State.attnAfterTakes_succ (s : State) {left : Nat} (h : freeCount s.free = n + 1 + left) :
    (if left < s.poolLowMark then s.attnAfterTakes n false ||| AttnSource.poolLow.bit else s.attnAfterTakes n false) =
      s.attnAfterTakes (n + 1) false := by
  have hbit : AttnSource.poolLow.bit = 0x20#7 := rfl
  have hor : s.attn ||| 0x20#7 ||| 0x20#7 = s.attn ||| 0x20#7 := by rw [BitVec.or_assoc, BitVec.or_self]
  have hleft : freeCount s.free - (n + 1) = left := by omega
  unfold State.attnAfterTakes
  rw [hbit, hleft]
  by_cases hlow : left < s.poolLowMark
  · simp only [hlow, ite_true, Nat.succ_pos, and_self, true_or]
    split
    · exact hor
    · rfl
  · have hbefore : ¬freeCount s.free - n < s.poolLowMark := by omega
    simp [hlow, hbefore]

/-- A listed entry whose token is on the roster is ignored (R51). -/
theorem Adding.Lists.skip (h : a.Lists s k g ys)
    (hx : x.1 ∈ (ys.take (freeEntries s.free).length).map Prod.fst) : addListed k a x = a := by
  have hg : a.state.gather? k = some _ := congrArg Slot.body h.record
  unfold addListed
  rw [hg]
  dsimp only
  rw [if_pos ((Gather.byToken_listing (List.length_take_le _ _) _).2 hx)]

/-- A take for a listed entry is refused once the pool has no entry left: all that changes is POOL_LOW (R71). -/
theorem Adding.Lists.refuse (h : a.Lists s k g ys) (hlen : ys.length < 256)
    (hx : x.1 ∉ (ys.take (freeEntries s.free).length).map Prod.fst)
    (hfull : (freeEntries s.free).length ≤ (ys.take (freeEntries s.free).length).length) {ys' : List (Token × Nat)}
    (htake : ys'.take (freeEntries s.free).length = ys.take (freeEntries s.free).length)
    (hmore : (ys.take (freeEntries s.free).length).length < ys'.length) : (addListed k a x).Lists s k g ys' := by
  have hg : a.state.gather? k = some _ := congrArg Slot.body h.record
  have hempty : freeEntries a.state.free = [] := h.free.trans (List.drop_eq_nil_of_le hfull)
  have hroom : (g.listing (freeEntries s.free) (ys.take (freeEntries s.free).length)).roster.length <
      Config.rosterLimit := by
    rw [Gather.listing_length (List.length_take_le _ _)]
    exact Nat.lt_of_le_of_lt (List.length_take_le' _ _) hlen
  have hstep : addListed k a x = { a with state := a.state.refuseTake } := by
    unfold addListed
    rw [hg]
    dsimp only
    rw [if_neg fun hin => hx ((Gather.byToken_listing (List.length_take_le _ _) _).1 hin), if_pos hroom]
    rcases State.take_cases a.state with ⟨-, htk⟩ | ⟨e, rest, f, hcons, -, -⟩
    · rw [htk]
    · rw [hempty] at hcons; cases hcons
  rw [hstep]
  obtain ⟨slots, free, hframe⟩ := h.frame
  exact {
    record := htake ▸ h.record
    others := h.others
    free := htake ▸ h.free
    frame := ⟨slots, free, by
      show a.state.refuseTake = _
      rw [hframe, htake, decide_eq_true hmore]
      exact congrArg (fun w => ({ s.adding k g _ true slots free with attn := w } : State))
        (s.attnAfterTakes_refused _ _)⟩
    call := htake ▸ h.call
    accepted := htake ▸ h.accepted }

/-- A change that keeps the class and leaves a queued record queued appends at most (R125). -/
theorem State.putGather_joins (u : State) (k : Nat) {old new : Gather} (hcls : new.cls = old.cls)
    (hq : old.queued = true → new.queued = true) : u.putGather k old new =
      State.setGather k new (if appends old new then u.enqueue new.port new.cls k else u) := by
  cases hold : old.queued
  · simp [State.putGather, hold]
  · simp [State.putGather, appends, keepsPlace, hold, hq hold, hcls]

/-- The first addition to a record of allowance 0 appends it to its class queue (R125). -/
theorem Gather.appends_listing (ha : g.stage = .active) (hs : g.suspended = false) (h : xs.length < es.length) :
    appends (g.listing es xs) (g.listing es (xs ++ [x])) = decide (g.allowance = 0 ∧ xs = []) := by
  have hold := Gather.queued_listing (g := g) ha hs (Nat.le_of_lt h)
  have hnew := Gather.queued_listing (g := g) (xs := xs ++ [x]) (es := es) ha hs (by simpa using h)
  have hcls : (g.listing es xs).cls = (g.listing es (xs ++ [x])).cls := rfl
  unfold appends keepsPlace
  rw [hold, hnew, decide_eq_true hcls]
  by_cases h0 : g.allowance = 0 <;> simp [h0]

/-- One addition more: the first one joins the class queue where the allowance is 0, and a take may raise POOL_LOW. -/
theorem State.adding_succ (s : State) (k n : Nat) (g : Gather) (slots : Table Slot) (f : List Run) :
    (if decide (g.allowance = 0 ∧ n = 0) then
        State.enqueue g.port g.cls k { s.adding k g n false slots f with attn := s.attnAfterTakes (n + 1) false }
      else { s.adding k g n false slots f with attn := s.attnAfterTakes (n + 1) false }) =
      s.adding k g (n + 1) false slots f := by
  unfold State.adding
  by_cases h0 : g.allowance = 0
  · cases n with
    | zero => simp [h0, State.enqueue, State.setPort, State.port]
    | succ n => simp [h0]
  · simp [h0]

/-- A take for a listed entry while the pool has an entry left adds it (R51, R70, R72). -/
theorem Adding.Lists.add (h : a.Lists s k g ys) (ha : g.stage = .active) (hs : g.suspended = false)
    (hn : (freeEntries s.free).Nodup) (hlen : ys.length < 256) (hx : x.1 ∉ ys.map Prod.fst)
    (hroom : ys.length < (freeEntries s.free).length) : (addListed k a x).Lists s k g (ys ++ [x]) := by
  obtain ⟨hrecord, hothers, hfree, ⟨slots, free, hframe⟩, hcall, hcount⟩ := h
  rw [List.take_of_length_le (Nat.le_of_lt hroom)] at hrecord hfree hframe hcall hcount
  rw [decide_eq_false (Nat.lt_irrefl _)] at hframe
  obtain ⟨u, call, count⟩ := a
  dsimp only at hrecord hothers hfree hframe hcall hcount
  subst hframe
  have hg : (s.adding k g ys.length false slots free).gather? k = some _ := congrArg Slot.body hrecord
  obtain ⟨e, rest, hd⟩ : ∃ e rest, (freeEntries s.free).drop ys.length = e :: rest :=
    ⟨_, _, List.drop_eq_getElem_cons hroom⟩
  obtain ⟨hnil, -⟩ | ⟨e', rest', f, hcons, hrest, htake⟩ := State.take_cases (s.adding k g ys.length false slots free)
  · rw [hfree, hd] at hnil; cases hnil
  rw [hfree, hd] at hcons
  obtain ⟨rfl, rfl⟩ := List.cons.inj hcons
  have hleft : freeCount s.free = ys.length + 1 + rest.length := by
    have := congrArg List.length hd
    rw [List.length_drop, List.length_cons] at this
    rw [freeCount_eq_length]
    omega
  have htaken : (s.adding k g ys.length false slots free).take =
      (some e, { s.adding k g ys.length false slots f with attn := s.attnAfterTakes (ys.length + 1) false }) :=
    htake.trans (congrArg (fun w => (some e, ({ s.adding k g ys.length false slots f with attn := w } : State)))
      (s.attnAfterTakes_succ hleft))
  have hlisted : (g.listing (freeEntries s.free) ys).roster.length < Config.rosterLimit := by
    rw [Gather.listing_length (Nat.le_of_lt hroom)]
    exact hlen
  have happends : appends (g.listing (freeEntries s.free) ys) (g.listing (freeEntries s.free) (ys ++ [x])) =
      decide (g.allowance = 0 ∧ ys.length = 0) := by
    rw [Gather.appends_listing ha hs hroom]
    simp [List.length_eq_zero_iff]
  have hqueued : (g.listing (freeEntries s.free) ys).queued = true →
      (g.listing (freeEntries s.free) (ys ++ [x])).queued = true := by
    rw [Gather.queued_listing ha hs (Nat.le_of_lt hroom), Gather.queued_listing ha hs (by simpa using hroom)]
    intro hq
    simp only [decide_eq_true_eq] at hq ⊢
    exact ⟨hq.1, by simp⟩
  have hcls : (g.listing (freeEntries s.free) (ys ++ [x])).cls = (g.listing (freeEntries s.free) ys).cls := rfl
  have hstep : addListed k ⟨s.adding k g ys.length false slots free, call, count⟩ x =
      ⟨(s.adding k g (ys.length + 1) false slots f).setGather k (g.listing (freeEntries s.free) (ys ++ [x])),
        call || decide (g.allowance = 0 ∧ ys.length = 0), count + 1⟩ := by
    unfold addListed
    rw [hg]
    dsimp only
    rw [if_neg fun hin => hx ((Gather.byToken_listing (Nat.le_of_lt hroom) _).1 hin), if_pos hlisted, htaken]
    dsimp only
    rw [Gather.addMember_listing ha hn hd, State.putGather_joins _ k hcls hqueued, happends, ← State.adding_succ]
    rfl
  have hall : (ys ++ [x]).take (freeEntries s.free).length = ys ++ [x] :=
    List.take_of_length_le (by simpa using hroom)
  rw [hstep]
  refine ⟨?_, fun j hj => ?_, ?_, ?_, ?_, ?_⟩
  · rw [hall, State.slot_setGather, if_pos rfl]
    have hgen : ((s.adding k g (ys.length + 1) false slots f).slot k).generation = (s.slot k).generation := by
      show ((s.adding k g ys.length false slots free).slot k).generation = _
      rw [hrecord]
    rw [hgen]
  · rw [State.slot_setGather, if_neg hj]
    exact hothers j hj
  · rw [hall, List.length_append, List.length_singleton, ← List.drop_drop, hd]
    exact hrest
  · rw [hall, List.length_append, List.length_singleton, decide_eq_false (Nat.lt_irrefl _)]
    exact ⟨_, f, rfl⟩
  · rw [hall, hcall]
    by_cases h0 : g.allowance = 0
    · cases ys <;> simp [h0]
    · simp [h0]
  · rw [hall, List.length_append, List.length_singleton, ← hcount]

/-! ## All listed entries -/

/-- The listed entries in list order: each is tried unless its token was tried before (R51). -/
theorem Adding.Lists.addAll (ha : g.stage = .active) (hs : g.suspended = false) (hn : (freeEntries s.free).Nodup) :
    ∀ (l ys : List (Token × Nat)) (seen : List Token) (a : Adding), a.Lists s k g ys →
      (∀ t, t ∈ seen ↔ t ∈ ys.map Prod.fst) → ys.length + l.length < 256 →
      (l.foldl (addListed k) a).Lists s k g (ys ++ firstListed seen l) := by
  intro l
  induction l with
  | nil => exact fun ys seen a h _ _ => (List.append_nil ys).symm ▸ h
  | cons x l ih =>
    intro ys seen a h hseen hlen
    rw [List.length_cons] at hlen
    rw [List.foldl_cons, firstListed]
    split
    · rename_i hold
      refine ih ys seen _ ?_ hseen (by omega)
      by_cases hroster : x.1 ∈ (ys.take (freeEntries s.free).length).map Prod.fst
      · rw [h.skip hroster]; exact h
      · have hshort : (freeEntries s.free).length < ys.length := by
          by_contra hle
          rw [List.take_of_length_le (by omega)] at hroster
          exact hroster ((hseen _).1 hold)
        have hfull : (ys.take (freeEntries s.free).length).length = (freeEntries s.free).length :=
          List.length_take_of_le (Nat.le_of_lt hshort)
        exact h.refuse (by omega) hroster (Nat.le_of_eq hfull.symm) rfl (by omega)
    · rename_i hnew
      have hfresh : x.1 ∉ ys.map Prod.fst := fun hin => hnew ((hseen _).2 hin)
      rw [← List.singleton_append, ← List.append_assoc]
      refine ih (ys ++ [x]) (x.1 :: seen) _ ?_ (fun t => by simp [hseen, or_comm]) (by simp; omega)
      by_cases hroom : ys.length < (freeEntries s.free).length
      · exact h.add ha hs hn (by omega) hfresh hroom
      · have hfull : (ys.take (freeEntries s.free).length).length = (freeEntries s.free).length :=
          List.length_take_of_le (by omega)
        refine h.refuse (by omega) (fun hin => hfresh ?_) (Nat.le_of_eq hfull.symm) ?_ (by simp)
        · rw [List.map_take] at hin
          exact List.mem_of_mem_take hin
        · exact List.take_append_of_le_length (by omega)

end

/-! ## The OPEN -/

theorem State.lowestFree_eq {s : State} {k : Nat} (hk : k < 8192) (hfree : s.gather? k = none)
    (hlow : ∀ j, j < k → (s.gather? j).isSome = true) : s.lowestFree = some k := by
  unfold State.lowestFree
  rw [List.find?_eq_some_iff_append]
  refine ⟨by simp [hfree], List.range' 0 k, List.range' (k + 1) (8192 - (k + 1)), ?_, fun j hj => ?_⟩
  · rw [← List.range'_succ, show Config.slots = k + (8192 - (k + 1) + 1) by show 8192 = _; omega]
    simp [← List.range'_append]
  · rw [List.mem_range'_1] at hj
    have := hlow j (by omega)
    cases hg : s.gather? j with
    | none => rw [hg] at this; cases this
    | some g => simp

/-- What stands of the record set by an OPEN before any listed entry is tried. -/
theorem Adding.lists_nil {s : State} {k : Nat} {g : Gather} (hr : g.roster = []) (hring : g.ring = []) :
    Adding.Lists s k g [] ⟨s.setGather k g, false, 0⟩ where
  record := by
    have hg : g.listing (freeEntries s.free) [] = g := by
      cases g
      subst hr hring
      simp [Gather.listing]
    rw [State.slot_setGather, if_pos rfl, List.take_nil, hg]
  others j hj := by rw [State.slot_setGather, if_neg hj]
  free := by simp
  frame := ⟨_, _, by
    simp only [List.take_nil, List.length_nil, State.adding, State.attnAfterTakes]
    simp
    rfl⟩
  call := by simp
  accepted := by simp

/-- The OPEN of a key that is not indexed is carried out on the lowest FREE slot (R17, R49, R50). -/
theorem exec_openQuery_fresh {s : State} {q : List Word} {k : Nat} (htake : s.MayTake q) (hkind : kindOf q = 1#4)
    (hacc : s.Accepts q) (hlookup : s.lookupGather (portOf q) (tagOf q) = none) (hk : k < 8192)
    (hfree : s.gather? k = none) (hlow : ∀ j, j < k → (s.gather? j).isSome = true) :
    exec .openQuery s = .next (s.popQuery.openAt q k) := by
  refine congrArg Host.Outcome.next ((State.takeQuery_accepts _ _ htake hacc (by simp [hkind])).trans ?_)
  unfold State.openGather
  rw [State.popQuery_lookupGather, hlookup]
  unfold State.openFresh
  rw [show s.popQuery.lowestFree = some k from State.lowestFree_eq hk hfree hlow]

/-- The lifetime deadline armed from a profile's field in milliseconds: absent where the field holds 0 (R52). -/
theorem armUnlessZero_milliseconds (now : Time) (x : BitVec 16) : armUnlessZero now (x.toNat * 1000) =
    if x = 0#16 then none else some (now + BitVec.ofNat 32 (x.toNat * 1000)) := by
  by_cases h0 : x = 0#16
  · simp [armUnlessZero, h0]
  · have : x.toNat ≠ 0 := fun h => h0 (BitVec.eq_of_toNat_eq h)
    simp [armUnlessZero, h0, this, after]

/-- Settles O24: the OPEN tries its listed entries one at a time, as `Adding.Lists` says. -/
theorem openTakesLowestFreeSlot : Obligations.OpenTakesLowestFreeSlot := by
  intro s q k htake hkind hacc hn hlookup hk hfree hlow p pf mode listed added cls n' a roster appended
  have hshort : (listedOf q).length < 256 := by
    have := (field (wordAt q 0) 20 5 : BitVec 5).isLt
    rw [listedOf, List.length_map, List.length_range, entryCountOf]
    omega
  have hlists := Adding.Lists.addAll (s := s.popQuery) (k := k) (g := s.popQuery.newGather q) rfl rfl hn (listedOf q) []
    [] _ (Adding.lists_nil rfl rfl) (fun t => by simp) (by simpa using hshort)
  rw [List.nil_append] at hlists
  obtain ⟨hrecord, hothers, hpool, ⟨slots, free, hframe⟩, hcall, haccepted⟩ := hlists
  have hadded : listed.take (freeEntries s.popQuery.free).length = added := by
    rw [← freeCount_eq_length]; rfl
  rw [hadded] at hrecord hpool hframe hcall haccepted
  refine ⟨_, ?_, hothers, hpool, ?_, ?_⟩
  · rw [hrecord]
    simp only [State.newGather, Gather.listing, armUnlessZero_toNat, armUnlessZero_milliseconds]
    rfl
  · have happended : appended = true ↔ (s.popQuery.newGather q).allowance = 0 ∧ 0 < added.length :=
      decide_eq_true_iff.trans (and_congr_right fun _ => List.length_pos_iff.symm)
    have hports : (if (s.popQuery.newGather q).allowance = 0 ∧ 0 < added.length then (s.enqueue p cls k).ports
        else s.ports) = if appended = true then (s.enqueue p cls k).ports else s.ports := by simp only [happended]
    rw [hframe]
    exact congrArg (fun ports => ({ s.popQuery with
      slots := slots, free := free, ports := ports
      attn := s.attnAfterTakes added.length (decide (added.length < listed.length)) } : State)) hports
  · rw [exec_openQuery_fresh htake hkind hacc hlookup hk hfree hlow]
    unfold State.openAt State.addAll
    dsimp only
    rw [hcall, haccepted, State.answerGrant, hkind]
    rfl

end Sys2Proof.Machine

/-! The link: what is received, taken and sent in each state of it, the sorting of framed messages, the bits of the part's
own messages, and the faults of the checks 1 to 7. -/

namespace Sys2Proof.Machine

section
variable {s : State} {q : List Word}

/-! ## What the link lets happen -/

theorem State.isUp_eq_true (h : s.link = .up) : s.isUp = true := decide_eq_true h

theorem State.isUp_eq_false (h : s.link = .resetting) : s.isUp = false := by simp [State.isUp, h]

theorem State.takeable_of_resetting (h : s.link = .resetting) : s.takeable = none := by
  simp [State.takeable, State.isUp_eq_false h]

theorem State.takeableEntry_of_resetting (h : s.link = .resetting) : s.takeableEntry = none := by
  simp [State.takeableEntry, State.isUp_eq_false h]

/-- The head entry may be taken while the link is UP with credit (R24). -/
theorem State.takeableEntry_of_up {e : Emission} {rest : List Emission} (h : s.link = .up) (hc : 0 < s.credit)
    (hemq : s.emq = e :: rest) : s.takeableEntry = some e := by
  simp [State.takeableEntry, State.isUp_eq_true h, hc, hemq]

/-- A valid entry stands ready at the head exactly where the link is UP, credit is held and the head entry is valid. -/
theorem State.emissionReady_iff (h : s.link = .up) : s.emissionReady = true ↔
    0 < s.credit ∧ ∃ e, s.emq.head? = some e ∧ (s.validMember e).isSome = true := by
  unfold State.emissionReady State.takeableEntry
  rw [State.isUp_eq_true h]
  by_cases hc : 0 < s.credit
  · cases s.emq.head? <;> simp [hc]
  · simp [hc]

/-- Settles O15: in RESETTING the guard of every arm of the link is false. -/
theorem resettingReceivesAndSendsNothing : Obligations.ResettingReceivesAndSendsNothing := by
  intro s h
  have hdown := State.isUp_eq_false h
  have hquery := fun f owner => State.takeQuery_none f owner (State.takeable_of_resetting h)
  have hentry := State.takeableEntry_of_resetting h
  refine ⟨rfl, ?_, fun m => ?_, fun m => rfl, fun n => ?_, ?_, fun p d => ?_, ?_⟩
  · simp [exec, execLossOfFraming, hdown]
  · simp [exec, execQueryArrival, hdown]
  · simp [exec, execEmitCredit, hdown]
  · simp [exec, execLinkReset, hdown]
  · simp [exec, execReport, hdown]
  · have hanswer : execAnswer s = .next s := by
      unfold execAnswer
      cases s.answerFifo <;> simp [hdown]
    simp [exec, execOpenQuery, execExtendQuery, execReclassQuery, execCloseQuery, execArriveQuery, execUndefinedQuery,
      hquery, hanswer, execDrawEmission, execStaleDiscard, hentry]

theorem exec_linkReset (h : s.link = .up) : exec .linkReset s = .next s.linkReset := by
  simp [exec, execLinkReset, State.isUp_eq_true h]

theorem exec_lossOfFraming (h : s.link = .up) :
    exec .lossOfFraming s = .next { s.linkReset with link := .resetting } := by
  simp [exec, execLossOfFraming, State.isUp_eq_true h]

/-- Both link resets carry out the link reset; loss of framing leaves the link RESETTING besides (R26, R27). -/
theorem exec_reset_of_up {c : Instr} (hc : c = .linkReset ∨ c = .lossOfFraming) (h : s.link = .up) :
    ∃ l, exec c s = .next { s.linkReset with link := l } := by
  rcases hc with rfl | rfl
  · exact ⟨_, exec_linkReset h⟩
  · exact ⟨_, exec_lossOfFraming h⟩

/-- Settles O17: the arrival is decided by the length of the Query FIFO, and both resets empty it. -/
theorem queryArrivalAppendsOrOverruns : Obligations.QueryArrivalAppendsOrOverruns := by
  refine ⟨fun s m h hm hk => ?_, fun s t ht => ?_, fun c s t hc h ht => ?_⟩
  · have hq : isQuery m = true := by simp [isQuery, hm, hk]
    have hrun : exec (.queryArrival m) s = .next (if s.queryFifo.length < 64 then
        { s with queryFifo := s.queryFifo ++ [m] } else s.raise .linkOverrun) := by
      simp only [exec, execQueryArrival, State.isUp_eq_true h, hq, Bool.and_self, ite_true]
      rfl
    rw [hrun]
    exact ⟨fun hlt => by rw [if_pos hlt], fun hge => by rw [if_neg (Nat.not_lt.2 hge)]; rfl⟩
  · obtain rfl := Host.Outcome.next.inj ht
    rfl
  · obtain ⟨l, hl⟩ := exec_reset_of_up hc h
    obtain rfl := Host.Outcome.next.inj (ht.symm.trans hl)
    rfl

/-! ## What the part sends -/

/-- Settles O43: the answer goes where the choice falls on an answer or no emission is ready. -/
theorem answerSentInTurn : Obligations.AnswerSentInTurn := by
  intro s a rest h hfifo ready
  have hready : s.emissionReady = true ↔ ready := State.emissionReady_iff h
  have hrun : exec .answer s = .next (if s.nextTx = .answer ∨ ¬ready then
      { s with answerFifo := rest, lklTx := a.words, nextTx := .emission } else s) := by
    simp [exec, execAnswer, hfifo, State.isUp_eq_true h, ← hready]
  rw [hrun]
  refine ⟨fun hturn => by rw [if_pos hturn], fun hnext hr => ?_⟩
  rw [if_neg]
  rintro (hanswer | hnot)
  · rw [hnext] at hanswer; cases hanswer
  · exact hnot hr

/-- DRAW_EMISSION at a valid head entry: it departs where the choice falls on an emission or no answer waits (R25). -/
theorem exec_drawEmission_valid {e : Emission} {rest : List Emission} {g : Gather} {m : Member} (h : s.link = .up)
    (hc : 0 < s.credit) (hemq : s.emq = e :: rest) (hv : s.validMember e = some (g, m)) : exec .drawEmission s =
      .next (if s.nextTx = .emission ∨ s.answerFifo = [] then s.depart e g m else s) := by
  simp [exec, execDrawEmission, State.takeableEntry_of_up h hc hemq, hv, State.answerReady, State.isUp_eq_true h]

theorem exec_staleDiscard_valid {e : Emission} {rest : List Emission} {g : Gather} {m : Member} (h : s.link = .up)
    (hc : 0 < s.credit) (hemq : s.emq = e :: rest) (hv : s.validMember e = some (g, m)) :
    exec .staleDiscard s = .next s := by
  simp [exec, execStaleDiscard, State.takeableEntry_of_up h hc hemq, hv]

/-- Settles O39: `State.validMember_iff` is the test, `State.depart` the departure. -/
theorem validEntryDeparts : Obligations.ValidEntryDeparts := by
  refine ⟨fun s e g m => State.validMember_iff, ?_⟩
  intro s e rest g m h hc hemq hv pf life m' g'
  rw [exec_drawEmission_valid h hc hemq hv]
  refine ⟨fun hturn => ?_, fun hnext hfifo => ?_, exec_staleDiscard_valid h hc hemq hv⟩
  · obtain ⟨-, -, -, -, -, hm, -, -⟩ := State.validMember_iff.1 hv
    rw [if_pos hturn, State.depart, (Gather.mem_of_member? hm).2, hemq]
    rfl
  · rw [if_neg]
    rintro (hemission | hempty)
    · rw [hnext] at hemission; cases hemission
    · exact hfifo hempty

/-! ## Framed messages -/

/-- The kind code is the four highest bits of word 0. -/
theorem kindOf_toNat (m : List Word) : (kindOf m).toNat = (wordAt m 0 >>> 28).toNat := by
  simp only [kindOf, field, BitVec.extractLsb'_toNat, BitVec.toNat_ushiftRight]
  have := (wordAt m 0).isLt
  rw [Nat.shiftRight_eq_div_pow]
  omega

theorem kindOf_eq_iff (m : List Word) (k : Nat) (hk : k < 16) :
    kindOf m = BitVec.ofNat 4 k ↔ wordAt m 0 >>> 28 = BitVec.ofNat 32 k := by
  rw [← BitVec.toNat_inj, ← BitVec.toNat_inj, kindOf_toNat, BitVec.toNat_ofNat, BitVec.toNat_ofNat,
    Nat.mod_eq_of_lt (by omega : k < 2 ^ 4), Nat.mod_eq_of_lt (by omega : k < 2 ^ 32)]

/-- A field that begins at bit `lo` is the word shifted down by `lo`. -/
theorem field_eq (w : Word) (lo width : Nat) : field w lo width = (w >>> lo).setWidth width :=
  BitVec.eq_of_toNat_eq (by simp [field])

/-- The kind codes, as the length checks read them. -/
theorem lengthLegal_iff (m : List Word) : lengthLegal m = true ↔
    ((kindOf m = 1#4 ∨ kindOf m = 2#4) ∧ entryCountOf m ≤ 24 ∧ m.length = 2 + 2 * entryCountOf m) ∨
    ((kindOf m = 3#4 ∨ kindOf m = 4#4) ∧ m.length = 2) ∨ (kindOf m = 5#4 ∧ m.length = 3) ∨
    ((kindOf m = 8#4 ∨ kindOf m = 9#4 ∨ kindOf m = 10#4) ∧ m.length = 1) := by
  have hcode : ∀ k : BitVec 4, kindOf m = k ↔ (kindOf m).toNat = k.toNat := fun k => BitVec.toNat_inj.symm
  have hlt := (kindOf m).isLt
  simp only [hcode, BitVec.toNat_ofNat]
  unfold lengthLegal Config.listLimit
  generalize (kindOf m).toNat = n at hlt ⊢
  interval_cases n <;> simp

/-- A message with a code of the query space is a query (R14). -/
theorem receive_query {m : List Word} (hm : m ≠ []) (hk : (kindOf m).toNat < 8) :
    receive m = some (.queryArrival m) := by
  simp [receive, isQuery, hm, hk]

/-- A message of the signal space is discarded where R14 says so, else it is the signal of its code. -/
theorem receive_signal {m : List Word} (hm : m ≠ []) (hk : 8 ≤ (kindOf m).toNat) : receive m =
    if lengthLegal m = false ∨ kindOf m = 9#4 ∧ creditsOf m = 0#8 then some (.undefinedSignal m)
    else if kindOf m = 8#4 then some (.report (field (wordAt m 0) 0 8) (depthOf m))
    else if kindOf m = 9#4 then some (.emitCredit (creditsOf m)) else some .linkReset := by
  simp [receive, isQuery, undefinedSignalWords, hm, Nat.not_lt.2 hk, hk]

/-- Settles O19: the kind and the length decide, as `receive_query`, `receive_signal` and `lengthLegal_iff` say. -/
theorem messagesSortedByKindAndLength : Obligations.MessagesSortedByKindAndLength := by
  refine ⟨fun m hm => ?_, fun _ _ => rfl, lengthLegal_iff⟩
  intro w kind
  have hport : field (wordAt m 0) 0 8 = w.setWidth 8 := (field_eq w 0 8).trans (by rw [BitVec.ushiftRight_zero])
  have hdepth : depthOf m = (w >>> 12).setWidth 16 := field_eq w 12 16
  have hcount : creditsOf m = (w >>> 20).setWidth 8 := field_eq w 20 8
  have hkind : (kindOf m).toNat = kind.toNat := kindOf_toNat m
  have hcode : ∀ k : Nat, k < 16 → kind = BitVec.ofNat 32 k → kindOf m = BitVec.ofNat 4 k :=
    fun k hk => (kindOf_eq_iff m k hk).2
  have hsignal : ∀ {k : BitVec 4}, kindOf m = k → 8 ≤ k.toNat → 8 ≤ (kindOf m).toNat := fun h hk => h ▸ hk
  have hlength : 8 ≤ (kindOf m).toNat → (m.length ≠ 1 ∨ 11 ≤ (kindOf m).toNat) → lengthLegal m = false := by
    intro hk hbad
    rw [Bool.eq_false_iff, ne_eq, lengthLegal_iff]
    intro hlegal
    have hgood : (kindOf m).toNat < 8 ∨ (kindOf m).toNat < 11 ∧ m.length = 1 := by
      rcases hlegal with ⟨h | h, -⟩ | ⟨h | h, -⟩ | ⟨h, -⟩ | ⟨h | h | h, hlen⟩ <;> simp [*]
    omega
  refine ⟨fun h => ?_, fun h hlen => ?_, fun h hlen hne => ?_, fun h hlen hz => ?_, fun h hlen => ?_,
    fun hlow hhigh hlen => ?_, fun h => ?_⟩
  · exact receive_query hm (by rw [hkind]; exact h)
  · have hk := hcode 8 (by decide) h
    have hlegal : lengthLegal m = true := (lengthLegal_iff m).2 (.inr (.inr (.inr ⟨.inl hk, hlen⟩)))
    rw [receive_signal hm (hsignal hk (by decide)), hlegal, hk, hport, hdepth]
    simp
  · have hk := hcode 9 (by decide) h
    have hlegal : lengthLegal m = true := (lengthLegal_iff m).2 (.inr (.inr (.inr ⟨.inr (.inl hk), hlen⟩)))
    rw [receive_signal hm (hsignal hk (by decide)), hlegal, hk, hcount]
    simp [hne]
  · have hk := hcode 9 (by decide) h
    rw [receive_signal hm (hsignal hk (by decide)), if_pos (.inr ⟨hk, hcount.trans hz⟩)]
  · have hk := hcode 10 (by decide) h
    have hlegal : lengthLegal m = true := (lengthLegal_iff m).2 (.inr (.inr (.inr ⟨.inr (.inr hk), hlen⟩)))
    rw [receive_signal hm (hsignal hk (by decide)), hlegal, hk]
    simp
  · have hk : 8 ≤ (kindOf m).toNat := by rw [hkind]; exact hlow
    rw [receive_signal hm hk, if_pos (.inl (hlength hk (.inl hlen)))]
  · have hk : 11 ≤ (kindOf m).toNat := by rw [hkind]; exact h
    rw [receive_signal hm (by omega), if_pos (.inl (hlength (by omega) (.inr hk)))]

/-! ## Faults of the checks 1 to 7 -/

/-- The taking of the query and the counting of its fault are independent. -/
theorem State.countFault_popQuery (s : State) (q : List Word) (status : Status) :
    s.popQuery.countFault q status = (s.countFault q status).popQuery := by
  cases status <;> first | exact State.offerTo_popQuery .. | exact State.offer_popQuery ..

theorem State.raise_popQuery (s : State) (src : AttnSource) : s.popQuery.raise src = (s.raise src).popQuery := rfl

/-- A query taken and answered with a fault, as the statements say it (R19, R29; log 3). -/
theorem State.fault_answered (s : State) (q : List Word) (status : Status) (parameter : BitVec 16) :
    (s.countFault q status).AnsweredFault q status parameter (s.popQuery.fault q status parameter) := by
  refine ⟨faultAnswer q status parameter (Config.faultedGrant s.freeIndex),
    s.freeIndex + if isListing q then 1 else 0, ?_, rfl, rfl, rfl, rfl, fun h1 h2 => ?_⟩
  · rw [State.fault, State.countFault_popQuery]
    rfl
  · simp [faultAnswer, isListing, h1, h2]

/-- The command of a kind of the query space takes the queries of that kind (R14). -/
theorem exec_queryCommand {k : BitVec 4} (hk : k.toNat < 8) (s : State) :
    ∃ f owner, exec (queryCommand k) s = .next (s.takeQuery f owner) ∧ f k = true := by
  have hcase : k = 1#4 ∨ k = 2#4 ∨ k = 3#4 ∨ k = 4#4 ∨ k = 5#4 ∨ k = 0#4 ∨ k = 6#4 ∨ k = 7#4 := by bv_omega
  rcases hcase with rfl | rfl | rfl | rfl | rfl | rfl | rfl | rfl <;> exact ⟨_, _, rfl, rfl⟩

/-- A query that fails one of the checks 1 to 3 is answered with the fault. -/
theorem exec_queryCommand_fault {status : Status} {parameter : BitVec 16} (h : s.MayTake q) (hk : (kindOf q).toNat < 8)
    (hf : s.linkFault q = some (status, parameter)) : ∃ t, exec (queryCommand (kindOf q)) s = .next t ∧
      (s.countFault q status).AnsweredFault q status parameter t := by
  obtain ⟨f, owner, hrun, hkind⟩ := exec_queryCommand hk s
  rw [hrun, State.takeQuery_fault f owner h hf hkind]
  exact ⟨_, rfl, State.fault_answered s q status parameter⟩

/-- Settles O21: `State.linkFault` makes the checks in their order. -/
theorem linkChecksAnswerFaults : Obligations.LinkChecksAnswerFaults := by
  refine ⟨fun q hq => ?_, fun s q h hk => ⟨fun hlen => ?_, fun hlen hport => ?_, fun hlen hport hoff => ?_⟩⟩
  · rcases hq with hq | hq | hq <;> simp [lengthLegal, hq]
  · exact exec_queryCommand_fault (status := .format) h hk (by simp [State.linkFault, hlen])
  · exact exec_queryCommand_fault (status := .portRange) h hk (by simp [State.linkFault, hlen, Config.ports, hport])
  · exact exec_queryCommand_fault (status := .portOff) h hk
      (by simp [State.linkFault, hlen, Config.ports, Nat.not_le.2 hport, hoff])

/-- EXTEND, RECLASS and CLOSE of a key that is not indexed are answered NO_GATHER. -/
theorem exec_queryCommand_noGather (h : s.MayTake q) (ha : s.Accepts q)
    (hk : kindOf q = 2#4 ∨ kindOf q = 3#4 ∨ kindOf q = 4#4) (hl : s.lookupGather (portOf q) (tagOf q) = none) :
    exec (queryCommand (kindOf q)) s = .next (s.popQuery.fault q .noGather 0#16) := by
  have hpop : s.popQuery.lookupGather (portOf q) (tagOf q) = none := hl
  rcases hk with hk | hk | hk <;> rw [hk] <;>
    refine congrArg Host.Outcome.next ((State.takeQuery_accepts _ _ h ha (by simp [hk])).trans ?_)
  · rw [State.extendGather, hpop]
  · rw [State.reclassGather, hpop]
  · rw [State.closeGather, hpop]

/-- EXTEND and RECLASS of a record in LINGER are answered GATHER_CLOSED. -/
theorem exec_queryCommand_closed {k : Nat} {g : Gather} {o : Ending} (h : s.MayTake q) (ha : s.Accepts q)
    (hk : kindOf q = 2#4 ∨ kindOf q = 3#4) (hl : s.lookupGather (portOf q) (tagOf q) = some (k, g))
    (ho : g.stage = .linger o) :
    exec (queryCommand (kindOf q)) s = .next (s.popQuery.fault q .gatherClosed o.code) := by
  have hpop : s.popQuery.lookupGather (portOf q) (tagOf q) = some (k, g) := hl
  rcases hk with hk | hk <;> rw [hk] <;>
    refine congrArg Host.Outcome.next ((State.takeQuery_accepts _ _ h ha (by simp [hk])).trans ?_)
  · simp only [State.extendGather, hpop, ho]
  · simp only [State.reclassGather, hpop, ho]

theorem exec_openQuery_accepts (h : s.MayTake q) (ha : s.Accepts q) (hk : kindOf q = 1#4) :
    exec .openQuery s = .next (s.popQuery.openGather q) :=
  congrArg Host.Outcome.next (State.takeQuery_accepts _ _ h ha (by simp [hk]))

/-- There is no lowest FREE slot where every slot holds a record. -/
theorem State.lowestFree_none (h : ∀ k, k < 8192 → (s.gather? k).isSome = true) : s.lowestFree = none := by
  refine List.find?_eq_none.2 fun k hk => ?_
  rw [List.mem_range'_1] at hk
  have := h k (by simpa [Config.slots] using hk.2)
  simpa [Option.isSome_iff_ne_none] using this

/-- Settles O23: the lookup and the record's stage decide which check applies. -/
theorem gatherTableAnswersFaults : Obligations.GatherTableAnswersFaults := by
  intro s q h ha
  refine ⟨fun hk hl => ?_, fun hk k g o hl ho => ?_, fun hk k g hl hactive => ?_, fun hk hl hfull => ?_⟩
  · exact ⟨_, exec_queryCommand_noGather h ha hk hl, State.fault_answered s q .noGather _⟩
  · exact ⟨_, exec_queryCommand_closed h ha hk hl ho, State.fault_answered s q .gatherClosed _⟩
  · refine ⟨_, exec_openQuery_accepts h ha hk, ?_⟩
    have hrun : s.popQuery.openGather q = s.popQuery.fault q .duplicateTag (BitVec.ofNat 16 k) := by
      simp only [State.openGather, State.popQuery_lookupGather, hl, hactive]
    rw [hrun]
    exact State.fault_answered s q .duplicateTag _
  · refine ⟨_, exec_openQuery_accepts h ha hk, ?_⟩
    have hnone : s.popQuery.lowestFree = none := State.lowestFree_none hfull
    have hrun : s.popQuery.openGather q =
        ((s.offer (portOf q) .opensRefused 1).raise .openRefused).popQuery.fault q .noRoom 0#16 := by
      simp only [State.openGather, State.popQuery_lookupGather, hl, State.openFresh, hnone, State.offer_popQuery,
        State.raise_popQuery]
    rw [hrun]
    exact State.fault_answered ((s.offer (portOf q) .opensRefused 1).raise .openRefused) q .noRoom _

end

/-! ## The bits of the part's own messages -/

section
variable {width : Nat} (v : BitVec width)

theorem place_toNat {lo : Nat} (h : lo + width ≤ 32) : (place lo v).toNat = v.toNat * 2 ^ lo := by
  have hv := v.isLt
  have hpow : v.toNat * 2 ^ lo < 2 ^ 32 := calc
    v.toNat * 2 ^ lo < 2 ^ width * 2 ^ lo := Nat.mul_lt_mul_of_pos_right hv (Nat.two_pow_pos lo)
    _ = 2 ^ (width + lo) := (Nat.pow_add ..).symm
    _ ≤ 2 ^ 32 := Nat.pow_le_pow_right (by decide) (by omega)
  have hwide : v.toNat < 2 ^ 32 := Nat.lt_of_lt_of_le hv (Nat.pow_le_pow_right (by decide) (by omega))
  rw [place, BitVec.toNat_shiftLeft, BitVec.toNat_setWidth, Nat.mod_eq_of_lt hwide, Nat.shiftLeft_eq,
    Nat.mod_eq_of_lt hpow]

/-- The field of a placed value is the value. -/
theorem place_same {lo : Nat} (h : lo + width ≤ 32) : place lo v >>> lo = v.setWidth 32 := by
  have hwide : v.toNat < 2 ^ 32 :=
    Nat.lt_of_lt_of_le v.isLt (Nat.pow_le_pow_right (by decide) (by omega))
  refine BitVec.eq_of_toNat_eq ?_
  rw [BitVec.toNat_ushiftRight, place_toNat v h, Nat.shiftRight_eq_div_pow, Nat.mul_div_cancel _ (Nat.two_pow_pos lo),
    BitVec.toNat_setWidth, Nat.mod_eq_of_lt hwide]

/-- A value placed below a field does not reach it. -/
theorem place_below {lo lo' : Nat} (h : lo' + width ≤ lo) (hlo : lo ≤ 32) : place lo' v >>> lo = 0#32 := by
  have hpow : v.toNat * 2 ^ lo' < 2 ^ lo := calc
    v.toNat * 2 ^ lo' < 2 ^ width * 2 ^ lo' := Nat.mul_lt_mul_of_pos_right v.isLt (Nat.two_pow_pos lo')
    _ = 2 ^ (width + lo') := (Nat.pow_add ..).symm
    _ ≤ 2 ^ lo := Nat.pow_le_pow_right (by decide) (by omega)
  refine BitVec.eq_of_toNat_eq ?_
  rw [BitVec.toNat_ushiftRight, place_toNat v (by omega), Nat.shiftRight_eq_div_pow, Nat.div_eq_of_lt hpow]
  rfl

/-- A value placed above a field does not reach it. -/
theorem place_above {lo lo' width' : Nat} (h : lo + width' ≤ lo') : (place lo' v >>> lo).setWidth width' = 0#width' := by
  refine BitVec.eq_of_getLsbD_eq fun i hi => ?_
  have : lo + i < lo' := by omega
  simp [place, this]

theorem place_lowest (h : width ≤ 32) : (place 0 v).setWidth width = v := by
  have := place_same v (lo := 0) (by omega)
  rw [BitVec.ushiftRight_zero] at this
  rw [this, BitVec.setWidth_setWidth_of_le _ h, BitVec.setWidth_eq]

theorem place_high {lo' width' : Nat} (h : width' ≤ lo') : (place lo' v).setWidth width' = 0#width' := by
  have := place_above v (lo := 0) (lo' := lo') (width' := width') (by omega)
  rwa [BitVec.ushiftRight_zero] at this

/-- The number of a word of which the highest value is placed at `lo` and the rest lies below. -/
theorem place_or_toNat {lo : Nat} (h : lo + width ≤ 32) {w : Word} (hw : w.toNat < 2 ^ lo) :
    (place lo v ||| w).toNat = v.toNat * 2 ^ lo + w.toNat := by
  rw [BitVec.toNat_or, place_toNat v h, ← Nat.shiftLeft_eq, Nat.shiftLeft_add_eq_or_of_lt hw]

end

/-- Settles O20: each field of a word is read out of the values placed in it, one by one. -/
theorem sentMessageLayouts : Obligations.SentMessageLayouts := by
  refine ⟨fun a => ?_, ⟨rfl, rfl, rfl, rfl⟩, fun e hcells hport => ?_⟩
  · intro status verdict basis
    have hwords : a.words = [place 28 0xC#4 ||| place 24 a.kind ||| place 20 status |||
        (place 18 verdict ||| place 16 basis) ||| place 0 a.parameter,
        place 24 a.allowance ||| place 19 a.accepted ||| place 16 a.cls] := by
      obtain ⟨kind, code, ruling, parameter, allowance, accepted, cls⟩ := a
      rcases ruling with _ | ⟨v, b⟩
      · have hnone : place 18 0#2 ||| place 16 0#2 = 0#32 := by decide
        cases code <;> simp [Answer.words, verdict, basis, status, hnone, Status.code]
      · cases code <;> cases v <;> cases b <;> rfl
    refine ⟨_, _, hwords, ?_⟩
    simp [BitVec.ushiftRight_or_distrib, BitVec.setWidth_or, place_same, place_below, place_above, place_lowest, place_high]
  · refine ⟨_, _, _, rfl, ?_, ?_, ?_⟩
    · have hp : (placeNat 0 8 e.port).toNat = e.port := by
        rw [placeNat, place_toNat _ (by decide), BitVec.toNat_ofNat, Nat.mod_eq_of_lt hport]; omega
      have hcp : (placeNat 20 8 e.cells ||| placeNat 0 8 e.port).toNat = e.cells * 2 ^ 20 + e.port := by
        rw [placeNat, place_or_toNat _ (by decide) (by omega), BitVec.toNat_ofNat, Nat.mod_eq_of_lt hcells, hp]
      rw [BitVec.or_assoc, place_or_toNat _ (by decide) (by omega), hcp, ← Nat.add_assoc]
      rfl
    · exact place_toNat _ (by decide)
    · rw [place_toNat _ (by decide)]; omega

end Sys2Proof.Machine

/-! What no command does: drop or add a waiting command, or take a FIFO, the Emission Queue, the credit, the arbiter's pointer,
the pool-low mark or a port's F, O and effective floor out of its bounds. -/

namespace Sys2Proof.Machine

/-! ## The bounds that every operation keeps -/

/-- F, O and the effective floor of a port are within their bounds (R97, R114, R121). -/
structure Port.Limited (pt : Port) : Prop where
  flight : pt.flight ≤ 16383
  outstanding : pt.outstanding ≤ 16383
  effFloor : pt.effFloor ≤ 7

/-- `t` holds the waiting commands of `s` and keeps each bound that `s` keeps, where the Answer FIFO holds at most `n` answers
before and at most `m` after: a query taken is answered later in its own event (R17, R18). -/
structure State.KeepsBounds (n m : Nat) (s t : State) : Prop where
  pending : t.pending = s.pending
  queryFifo : s.queryFifo.length ≤ 64 → t.queryFifo.length ≤ 64
  answerFifo : s.answerFifo.length ≤ n → t.answerFifo.length ≤ m
  credit : s.credit ≤ 1023 → t.credit ≤ 1023
  emq : s.emq.length ≤ 256 → t.emq.length ≤ 256
  pointer : s.pointer < 48 → t.pointer < 48
  poolLowMark : s.poolLowMark ≤ 65536 → t.poolLowMark ≤ 65536
  port : ∀ p, (s.port p).Limited → (t.port p).Limited

/-- What the bounds speak of. -/
def State.gauges (s : State) : List Instr × List (List Word) × List Answer × Nat × List Emission × Nat × Nat × Table Port :=
  (s.pending, s.queryFifo, s.answerFifo, s.credit, s.emq, s.pointer, s.poolLowMark, s.ports)

section
variable {n m k p : Nat} {s t u : State} {g g' : Gather}

theorem State.KeepsBounds.refl : s.KeepsBounds n n s := ⟨rfl, id, id, id, id, id, id, fun _ => id⟩

theorem State.KeepsBounds.trans {l : Nat} (h : s.KeepsBounds n m t) (h' : t.KeepsBounds m l u) : s.KeepsBounds n l u :=
  ⟨h'.pending.trans h.pending, h'.queryFifo ∘ h.queryFifo, h'.answerFifo ∘ h.answerFifo, h'.credit ∘ h.credit,
    h'.emq ∘ h.emq, h'.pointer ∘ h.pointer, h'.poolLowMark ∘ h.poolLowMark, fun p => h'.port p ∘ h.port p⟩

/-- A change of what the bounds do not speak of. -/
theorem State.KeepsBounds.congr (h : s.KeepsBounds n m t) (hu : u.gauges = t.gauges) : s.KeepsBounds n m u := by
  simp only [State.gauges, Prod.mk.injEq] at hu
  obtain ⟨hpending, hquery, hanswer, hcredit, hemq, hpointer, hmark, hports⟩ := hu
  exact h.trans ⟨hpending, hquery ▸ id, hanswer ▸ id, hcredit ▸ id, hemq ▸ id, hpointer ▸ id, hmark ▸ id, fun p => by
    rw [State.port, State.port, hports]; exact id⟩

/-- The room for a further answer is left unused. -/
theorem State.KeepsBounds.unanswered (h : s.KeepsBounds n m t) : s.KeepsBounds n (m + 1) t :=
  { h with answerFifo := fun hlen => Nat.le_succ_of_le (h.answerFifo hlen) }

theorem State.KeepsBounds.ite {c : Prop} [Decidable c] (ht : c → s.KeepsBounds n m t) (hu : s.KeepsBounds n m u) :
    s.KeepsBounds n m (if c then t else u) := by
  split
  · rename_i hc; exact ht hc
  · exact hu

theorem State.KeepsBounds.setPort (h : s.KeepsBounds n m t) {v : Port} (hv : (t.port p).Limited → v.Limited) :
    s.KeepsBounds n m (t.setPort p v) :=
  h.trans { State.KeepsBounds.refl (n := m) (s := t) with
    port := fun q hq => by
      rw [State.port_setPort]
      split
      · rename_i hqp; exact hv (hqp ▸ hq)
      · exact hq }

/-! ## Meters, attention, records and returns -/

theorem State.KeepsBounds.offerTo (h : s.KeepsBounds n m t) (sel : BitVec 6) (ev : MeterEvent) (inc : Nat) :
    s.KeepsBounds n m (t.offerTo sel ev inc) := h.congr (by simp [State.gauges])

theorem State.KeepsBounds.offer (h : s.KeepsBounds n m t) (p : Nat) (ev : MeterEvent) (inc : Nat) :
    s.KeepsBounds n m (t.offer p ev inc) := (h.offerTo _ ev inc).offerTo _ ev inc

theorem State.KeepsBounds.mapMeters (h : s.KeepsBounds n m t) (f : Meter → Meter) : s.KeepsBounds n m (t.mapMeters f) :=
  h.congr rfl

theorem State.KeepsBounds.raise (h : s.KeepsBounds n m t) (src : AttnSource) : s.KeepsBounds n m (t.raise src) := h.congr rfl

theorem State.KeepsBounds.refuseTake (h : s.KeepsBounds n m t) : s.KeepsBounds n m t.refuseTake := h.congr rfl

theorem State.KeepsBounds.setGather (h : s.KeepsBounds n m t) (k : Nat) (g : Gather) : s.KeepsBounds n m (t.setGather k g) :=
  h.congr rfl

theorem State.KeepsBounds.freeSlot (h : s.KeepsBounds n m t) (k : Nat) (g : Gather) : s.KeepsBounds n m (t.freeSlot k g) :=
  h.congr rfl

theorem State.KeepsBounds.take (h : s.KeepsBounds n m t) : s.KeepsBounds n m t.take.2 := by
  obtain ⟨-, htake⟩ | ⟨_, _, _, -, -, htake⟩ := State.take_cases t
  · rw [htake]; exact h.refuseTake
  · rw [htake]; exact h.congr rfl

theorem State.KeepsBounds.giveBack (h : s.KeepsBounds n m t) (p cells : Nat) : s.KeepsBounds n m (t.giveBack p cells) :=
  h.setPort fun hp => { hp with outstanding := Nat.le_trans (Nat.sub_le _ _) hp.outstanding }

theorem State.KeepsBounds.setQueue (h : s.KeepsBounds n m t) (p c : Nat) (q : List Nat) :
    s.KeepsBounds n m (t.setPort p ((t.port p).setQueue c q)) := h.setPort fun hp => { hp with }

theorem State.KeepsBounds.putGather (h : s.KeepsBounds n m t) (k : Nat) (old new : Gather) :
    s.KeepsBounds n m (t.putGather k old new) := by
  have hdequeue : s.KeepsBounds n m
      (if old.queued && !keepsPlace old new then t.dequeue old.port old.cls k else t) :=
    .ite (fun _ => h.setQueue _ _ _) h
  unfold State.putGather
  refine State.KeepsBounds.setGather ?_ k new
  split
  · exact hdequeue.setQueue _ _ _
  · exact hdequeue

theorem State.KeepsBounds.leaveActive (h : s.KeepsBounds n m t) (k : Nat) (g : Gather) :
    s.KeepsBounds n m (t.leaveActive k g) := (h.putGather k g g.left).giveBack _ _

theorem State.KeepsBounds.endGather (h : s.KeepsBounds n m t) (k : Nat) (g : Gather) (o : Ending) :
    s.KeepsBounds n m (t.endGather k g o).1 :=
  have hleft := h.leaveActive k g
  State.KeepsBounds.offer (.ite (fun _ => hleft.freeSlot k g) (hleft.setGather k _)) _ _ _

theorem State.KeepsBounds.retire (h : s.KeepsBounds n m t) (k : Nat) : s.KeepsBounds n m (t.retire k).1 := by
  unfold State.retire
  split
  · exact h
  · split
    · exact (h.leaveActive k _).freeSlot k _
    · exact h.freeSlot k _

theorem State.KeepsBounds.retireAll (h : s.KeepsBounds n m t) (ks : List Nat) : s.KeepsBounds n m (t.retireAll ks).1 := by
  rw [State.retireAll_eq]
  refine List.foldlRecOn (motive := fun a : State × List Nat => s.KeepsBounds n m a.1) ks _ h fun a ha k _ => ?_
  unfold retireStep
  split
  · exact ha
  · exact ha.retire k

/-! ## Passes -/

/-- An issue puts O at most at F, and one entry more on an Emission Queue that is not full (R130 to R132). -/
theorem State.KeepsBounds.issue (h : s.KeepsBounds n m t) {d : Draw}
    (ho : (t.port p).outstanding + d.cells ≤ (t.port p).flight) (hlen : t.emq.length < 256) :
    s.KeepsBounds n m (t.issue p d) := by
  have hport := h.setPort (p := p) (v := (t.port p).issued d)
    fun hp => ⟨hp.flight, Nat.le_trans ho hp.flight, hp.effFloor⟩
  have hemq := (hport.setGather d.slot (d.gather.issue d.cells d.member)).trans
    (u := { (t.setPort p ((t.port p).issued d)).setGather d.slot (d.gather.issue d.cells d.member) with
      emq := t.emq ++ [t.emissionOf p d] })
    { State.KeepsBounds.refl (n := m) with
      emq := fun _ => by
        show (t.emq ++ [t.emissionOf p d]).length ≤ 256
        rw [List.length_append]
        exact hlen }
  exact (hemq.offer _ _ _).offer _ _ _

theorem State.KeepsBounds.drawPass (h : s.KeepsBounds n m t) (p : Nat) : s.KeepsBounds n m (t.drawPass p) :=
  State.drawPass_keeps p (s.KeepsBounds n m) (fun _ _ hu _ ho hlen => hu.issue ho hlen)
    (fun _ _ hu _ _ _ => hu.setPort fun hp => { hp with }) t h

theorem State.KeepsBounds.passIf (h : s.KeepsBounds n m t) (call : Bool) (p : Nat) : s.KeepsBounds n m (t.passIf call p) :=
  .ite (fun _ => h.drawPass p) h

theorem State.KeepsBounds.passes (h : s.KeepsBounds n m t) (called : List Nat) : s.KeepsBounds n m (t.passes called) :=
  State.passes_keeps called (s.KeepsBounds n m) (fun _ p _ _ hu => hu.drawPass p) t h

theorem State.KeepsBounds.handTo (h : s.KeepsBounds n m t) (hp : p < 48) : s.KeepsBounds n m (t.handTo p) :=
  State.KeepsBounds.setPort (t := { t with pointer := p })
    (h.trans { State.KeepsBounds.refl (n := m) with pointer := fun _ => hp }) fun hl => { hl with }

theorem State.KeepsBounds.handPlace (h : s.KeepsBounds n m t) (p : Nat) (call : Bool) :
    s.KeepsBounds n m (t.handPlace p call) :=
  State.handPlace_keeps p call (s.KeepsBounds n m) (fun _ _ hq _ hu => hu.handTo hq) (fun _ q hu => hu.drawPass q) t h

theorem State.KeepsBounds.serveAll (h : s.KeepsBounds n m t) (called : List Nat) : s.KeepsBounds n m (t.serveAll called) :=
  State.serveAll_keeps called (s.KeepsBounds n m) (fun _ _ hq _ hu => hu.handTo hq) (fun _ q _ hu => hu.drawPass q) t h

/-! ## The link -/

theorem State.KeepsBounds.depart (h : s.KeepsBounds n m t) (e : Emission) (g : Gather) (x : Member) :
    s.KeepsBounds n m (t.depart e g x) := by
  have hsent : s.KeepsBounds n m { t with
      emq := t.emq.tail, credit := t.credit - 1, lklTx := e.words, nextTx := .answer } :=
    h.trans { State.KeepsBounds.refl (n := m) with
      emq := fun hlen => by
        show t.emq.tail.length ≤ 256
        rw [List.length_tail]; omega
      credit := fun hc => Nat.le_trans (Nat.sub_le _ _) hc }
  exact (hsent.putGather e.slot g _).handPlace _ _

theorem State.KeepsBounds.walkEntry {a : State × List Nat} (h : s.KeepsBounds n m a.1) (e : Emission) :
    s.KeepsBounds n m (Machine.walkEntry a e).1 := by
  unfold Machine.walkEntry
  split
  · exact h
  · exact (h.putGather e.slot _ _).giveBack _ _

/-- The walk changes records and ports, and empties the Emission Queue. -/
theorem State.KeepsBounds.walk (h : s.KeepsBounds n m t) : s.KeepsBounds n m t.walk.1 := by
  have hfold : s.KeepsBounds n m (t.emq.foldl Machine.walkEntry (t, [])).1 :=
    List.foldlRecOn (motive := fun a : State × List Nat => s.KeepsBounds n m a.1) t.emq _ h fun a ha e _ => ha.walkEntry e
  exact hfold.trans { State.KeepsBounds.refl (n := m) with emq := fun _ => Nat.zero_le _ }

theorem State.KeepsBounds.linkReset (h : s.KeepsBounds n m t) : s.KeepsBounds n m t.linkReset := by
  have hserve := h.walk.serveAll t.walk.2
  exact State.KeepsBounds.raise (t := { t.walk.1.serveAll t.walk.2 with
    queryFifo := [], answerFifo := [], credit := 0, nextTx := .answer })
    (hserve.trans { State.KeepsBounds.refl (n := m) with
      queryFifo := fun _ => Nat.zero_le _
      answerFifo := fun _ => Nat.zero_le _
      credit := fun _ => Nat.zero_le _ }) _

/-! ## Queries -/

theorem State.KeepsBounds.appendAnswer (h : s.KeepsBounds n m t) (a : Answer) : s.KeepsBounds n (m + 1) (t.appendAnswer a) :=
  h.trans { State.KeepsBounds.refl (n := m) with
    answerFifo := fun hlen => by
      show (t.answerFifo ++ [a]).length ≤ m + 1
      simpa using hlen }

theorem State.KeepsBounds.fault (h : s.KeepsBounds n m t) (q : List Word) (status : Status) (parameter : BitVec 16) :
    s.KeepsBounds n (m + 1) (t.fault q status parameter) := by
  have hcount : s.KeepsBounds n m (t.countFault q status) := by
    unfold State.countFault
    split
    · exact h.offerTo _ _ _
    · exact h.offerTo _ _ _
    · exact h.offer _ _ _
  exact State.KeepsBounds.appendAnswer (t := { t.countFault q status with
    freeIndex := t.freeIndex + if isListing q then 1 else 0 }) (hcount.congr rfl) _

theorem State.KeepsBounds.addListed {a : Adding} (h : s.KeepsBounds n m a.state) (k : Nat) (x : Token × Nat) :
    s.KeepsBounds n m (Machine.addListed k a x).state := by
  have htake := h.take
  unfold Machine.addListed
  split
  · exact h
  · split
    · exact h
    · split
      · split
        · rename_i hu; rw [hu] at htake; exact htake
        · rename_i hu; rw [hu] at htake; exact State.KeepsBounds.putGather htake k _ _
      · split
        · exact h.refuseTake
        · exact h

theorem State.KeepsBounds.addAll (h : s.KeepsBounds n m t) (k : Nat) (listed : List (Token × Nat)) :
    s.KeepsBounds n m (t.addAll k listed).state :=
  List.foldlRecOn (motive := fun a : Adding => s.KeepsBounds n m a.state) listed _ h fun _ ha x _ => ha.addListed k x

theorem State.KeepsBounds.openFresh (h : s.KeepsBounds n m t) (q : List Word) : s.KeepsBounds n (m + 1) (t.openFresh q) := by
  unfold State.openFresh
  split
  · exact ((h.offer _ _ _).raise _).fault _ _ _
  · exact ((((h.setGather _ _).addAll _ _).offer _ _ _).passIf _ _).appendAnswer _

theorem State.KeepsBounds.openGather (h : s.KeepsBounds n m t) (q : List Word) : s.KeepsBounds n (m + 1) (t.openGather q) := by
  unfold State.openGather
  split
  · exact h.openFresh q
  · split
    · exact h.fault _ _ _
    · exact (h.freeSlot _ _).openFresh q

theorem State.KeepsBounds.extendGather (h : s.KeepsBounds n m t) (q : List Word) :
    s.KeepsBounds n (m + 1) (t.extendGather q) := by
  unfold State.extendGather
  split
  · exact h.fault _ _ _
  · split
    · exact h.fault _ _ _
    · exact (((h.setGather _ _).addAll _ _).passIf _ _).appendAnswer _

theorem State.KeepsBounds.reclassGather (h : s.KeepsBounds n m t) (q : List Word) :
    s.KeepsBounds n (m + 1) (t.reclassGather q) := by
  unfold State.reclassGather
  split
  · exact h.fault _ _ _
  · split
    · exact h.fault _ _ _
    · exact ((h.putGather _ _ _).passIf _ _).appendAnswer _

theorem State.KeepsBounds.closeGather (h : s.KeepsBounds n m t) (q : List Word) : s.KeepsBounds n (m + 1) (t.closeGather q) := by
  unfold State.closeGather
  split
  · exact h.fault _ _ _
  · split
    · exact h.appendAnswer _
    · exact ((h.endGather _ _ _).passIf _ _).appendAnswer _

theorem State.KeepsBounds.answerTable (h : s.KeepsBounds n m t) (q : List Word) (v : Verdict) (b : Basis) (parameter : Nat) :
    s.KeepsBounds n (m + 1) (t.answerTable q v b parameter) := ((h.offer _ _ _).offer _ _ _).appendAnswer _

theorem State.KeepsBounds.arriveMember (h : s.KeepsBounds n m t) (q : List Word) (k : Nat) (g : Gather) (x : Member)
    (call : Bool) : s.KeepsBounds n (m + 1) (t.arriveMember q k g x call) := by
  unfold State.arriveMember
  refine State.KeepsBounds.appendAnswer (State.KeepsBounds.passIf (State.KeepsBounds.offer ?_ _ _ _) _ _) _
  have hput := (h.putGather k g ((g.handle (t.profileOf g.port) t.timebase (t.port g.port).mode (cellsOf (bytesOf q))
    (lastOf q) x).gather.rearmIdle (t.profileOf g.port) t.timebase)).giveBack g.port
    (g.handle (t.profileOf g.port) t.timebase (t.port g.port).mode (cellsOf (bytesOf q)) (lastOf q) x).returned
  split
  · exact hput.endGather _ _ _
  · exact hput

theorem State.KeepsBounds.arriveUnjoined (h : s.KeepsBounds n m t) (q : List Word) (k : Nat) (g : Gather) :
    s.KeepsBounds n (m + 1) (t.arriveUnjoined q k g) := (h.setGather k _).answerTable _ _ _ _

theorem State.KeepsBounds.arriveRoster (h : s.KeepsBounds n m t) (q : List Word) (k : Nat) (g : Gather) :
    s.KeepsBounds n (m + 1) (t.arriveRoster q k g) := by
  have htake := h.take
  unfold State.arriveRoster
  split
  · exact h.arriveMember q k g _ _
  · split
    · split
      · rename_i hu; rw [hu] at htake; exact State.KeepsBounds.arriveUnjoined htake q k g
      · rename_i hu
        rw [hu] at htake
        dsimp only
        split
        · exact State.KeepsBounds.unanswered htake
        · exact (State.KeepsBounds.putGather htake k g _).arriveMember q k _ _ _
    · exact State.KeepsBounds.arriveUnjoined (.ite (fun _ => h.refuseTake) h) q k g

theorem State.KeepsBounds.classify (h : s.KeepsBounds n m t) (q : List Word) : s.KeepsBounds n (m + 1) (t.classify q) := by
  unfold State.classify
  split
  · exact (h.offer _ _ _).appendAnswer _
  · split
    · exact h.answerTable _ _ _ _
    · split
      · exact h.answerTable _ _ _ _
      · exact h.arriveRoster q _ _

/-- A query is taken where the Answer FIFO has room for its answer (R17). -/
theorem State.KeepsBounds.takeQuery (s : State) (f : BitVec 4 → Bool) {owner : List Word → State → State}
    (how : ∀ q u, s.KeepsBounds 64 63 u → s.KeepsBounds 64 64 (owner q u)) : s.KeepsBounds 64 64 (s.takeQuery f owner) := by
  rcases State.takeQuery_cases s f owner with heq | ⟨hroom, q, -, htaken⟩
  · rw [heq]; exact .refl
  · have hpop : s.KeepsBounds 64 63 s.popQuery :=
      { State.KeepsBounds.refl (n := 64) with
        queryFifo := fun hlen => by
          show s.queryFifo.tail.length ≤ 64
          rw [List.length_tail]; omega
        answerFifo := fun _ => Nat.le_of_lt_succ hroom }
    rcases htaken with ⟨status, parameter, heq⟩ | ⟨-, heq⟩
    · rw [heq]; exact hpop.fault _ _ _
    · rw [heq]; exact how q _ hpop

/-! ## The ports' commands and the expiries -/

theorem Port.Limited.bring {pt : Port} (h : pt.Limited) (pf : Profile) (f : Int) : (pt.bring pf f).Limited := by
  obtain ⟨-, hmax, heq⟩ := Port.bring_spec pf f pt
  refine ⟨Nat.le_trans hmax pf.fMaxe_le, ?_, ?_⟩
  · rw [heq]; exact h.outstanding
  · rw [heq]; exact h.effFloor

theorem Port.Limited.refloor {pt : Port} (h : pt.Limited) (pf : Profile) : (pt.refloor pf).Limited :=
  { h with effFloor := pf.floor_le _ _ }

theorem Port.Limited.climb {pt : Port} (h : pt.Limited) (pf : Profile) (now : Time) (depth : Nat) :
    (pt.climb pf now depth).Limited := by
  unfold Port.climb
  split
  · exact { h with }
  · split
    · exact { h with }
    · exact h

theorem Port.Limited.report {pt : Port} (h : pt.Limited) (pf : Profile) (now : Time) (depth : Nat) :
    (pt.report pf now depth).Limited := by
  have hfresh : (pt.freshen pf now).Limited := { h with }
  have hbring := (hfresh.climb pf now depth).bring pf (((pt.freshen pf now).climb pf now depth).stepped pf)
  exact Port.Limited.refloor (pt := ((pt.freshen pf now).climb pf now depth).stepFlight pf) { hbring with } pf

theorem Port.Limited.dwellFall {pt : Port} (h : pt.Limited) (pf : Profile) (now : Time) :
    (pt.dwellFall pf now).Limited := ⟨h.flight, h.outstanding, pf.floor_le _ _⟩

theorem Port.Limited.goStale {pt : Port} (h : pt.Limited) (now : Time) : (pt.goStale now).Limited := { h with }

theorem Port.Limited.enable {pt : Port} (h : pt.Limited) (pf : Profile) (now : Time) : (pt.enable pf now).Limited :=
  ⟨Nat.le_trans (Nat.min_le_right _ _) pf.fMaxe_le, h.outstanding, pf.floor_le _ _⟩

theorem Port.Limited.setProfile {pt : Port} (h : pt.Limited) (number : BitVec 3) (pf : Profile) :
    (pt.setProfile number pf).Limited := by
  have hnumber : ({ pt with profile := number } : Port).Limited := { h with }
  unfold Port.setProfile
  dsimp only
  split
  · exact hnumber.bring pf _
  · exact hnumber

theorem State.KeepsBounds.applyPort (h : s.KeepsBounds n m t) (p : Nat) (old : Port) {new : Port}
    (hnew : (t.port p).Limited → new.Limited) : s.KeepsBounds n m (t.applyPort p old new) := by
  have hset := h.setPort hnew
  have henter : s.KeepsBounds n m (if entersSurge old new then (t.setPort p new).surgeEntry p else t.setPort p new) :=
    .ite (fun _ => ((hset.mapMeters _).offer _ _ _).raise _) hset
  unfold State.applyPort
  refine State.KeepsBounds.passIf ?_ _ _
  split
  · exact henter.mapMeters _
  · exact henter

theorem State.KeepsBounds.enableAt (h : s.KeepsBounds n m t) (p : Nat) : s.KeepsBounds n m (t.enableAt p) := by
  have hset := h.setPort (p := p) fun hp => hp.enable (t.profileOf p) t.timebase
  unfold State.enableAt
  dsimp only
  split
  · exact h
  · exact .ite (fun _ => hset.mapMeters _) hset

theorem State.KeepsBounds.disableAt (h : s.KeepsBounds n m t) (p : Nat) : s.KeepsBounds n m (t.disableAt p) := by
  unfold State.disableAt
  split
  · exact ((h.retireAll _).passes _).setPort fun hp => { hp with }
  · exact h

theorem State.KeepsBounds.advance (h : s.KeepsBounds n m t) : s.KeepsBounds n m t.advance := h.congr rfl

/-- A write of a port's settings and the pass of its notice (R115, R157). -/
theorem State.KeepsBounds.writePort (h : s.KeepsBounds n m t) {v : Port} (hv : (t.port p).Limited → v.Limited)
    (call : Bool) : s.KeepsBounds n m ((t.advance.setPort p v).passIf call p) := (h.advance.setPort hv).passIf _ _

theorem State.KeepsBounds.finishCommand (h : s.KeepsBounds n m t) (code port : BitVec 8) (tag : Tag) (r : Result) :
    s.KeepsBounds n m (t.finishCommand code port tag r) := h.congr rfl

theorem State.KeepsBounds.reclaim (h : s.KeepsBounds n m t) (k : Nat) (g : Gather) (x : Member) :
    s.KeepsBounds n m (t.reclaim k g x) := by
  unfold State.reclaim
  refine State.KeepsBounds.passIf ?_ _ _
  generalize (if decide ((t.profileOf g.port).lapses ≤ x.reclaimed.lapses) = true then g.lapseMember x.reclaimed
    else (g.setMember x.reclaimed).reevaluate (t.profileOf g.port) x.entry) = g'
  have hput := ((h.putGather k g g').giveBack g.port x.drawOut).offer g.port .drawsReclaimed 1
  split
  · exact hput.endGather _ _ _
  · exact hput

theorem State.KeepsBounds.expireGather (h : s.KeepsBounds n m t) (k : Nat) (g : Gather) (o : Ending) :
    s.KeepsBounds n m (t.expireGather k g o) := (h.endGather k g o).passIf _ _

theorem State.KeepsBounds.clampPorts (h : s.KeepsBounds n m t) (number : Nat) :
    s.KeepsBounds n m (t.clampPorts number) := by
  have hfold : s.KeepsBounds n m ((List.range Config.ports).foldl (clampPort number) (t, [])).1 := by
    refine List.foldlRecOn (motive := fun a : State × List Nat => s.KeepsBounds n m a.1) _ _ h fun a ha p _ => ?_
    unfold clampPort
    dsimp only
    split
    · exact ha.setPort fun hp => hp.bring _ _
    · exact ha
  exact hfold.passes _

/-! ## The commands -/

/-- Part reset sets every bound's subject within its bounds, and leaves the waiting commands (log 8). -/
theorem State.reset_keepsBounds (s : State) :
    s.KeepsBounds 64 64 { State.reset with pending := s.pending, freeIndex := s.freeIndex } :=
  have h := resetIsSafe.bounded
  ⟨rfl, fun _ => h.queryFifo, fun _ => h.answerFifo, fun _ => h.credit, fun _ => h.emq, fun _ => h.pointer,
    fun _ => h.poolLowMark, fun p _ => ⟨h.flight p, h.outstanding p, h.effFloor p⟩⟩

/-- Every command answers a next state, which holds the waiting commands and keeps the bounds. -/
theorem exec_keepsBounds (c : Instr) (s : State) : ∃ t, exec c s = .next t ∧ s.KeepsBounds 64 64 t := by
  have hself : s.KeepsBounds 64 64 s := .refl
  cases c with
  | partReset => exact ⟨_, rfl, s.reset_keepsBounds⟩
  | lossOfFraming => exact ⟨_, rfl, .ite (fun _ => hself.linkReset.congr rfl) hself⟩
  | framingAcquired => exact ⟨_, rfl, hself.congr rfl⟩
  | queryArrival words =>
    refine ⟨_, rfl, .ite (fun _ => ?_) hself⟩
    split
    · rename_i hlen
      exact { hself with
        queryFifo := fun _ => by
          show (s.queryFifo ++ [words]).length ≤ 64
          rw [List.length_append]
          exact hlen }
    · exact hself.raise _
  | undefinedSignal words => exact ⟨s, rfl, hself⟩
  | openQuery => exact ⟨_, rfl, .takeQuery s _ fun q _ hu => hu.openGather q⟩
  | extendQuery => exact ⟨_, rfl, .takeQuery s _ fun q _ hu => hu.extendGather q⟩
  | reclassQuery => exact ⟨_, rfl, .takeQuery s _ fun q _ hu => hu.reclassGather q⟩
  | closeQuery => exact ⟨_, rfl, .takeQuery s _ fun q _ hu => hu.closeGather q⟩
  | arriveQuery => exact ⟨_, rfl, .takeQuery s _ fun q _ hu => hu.classify q⟩
  | undefinedQuery => exact ⟨_, rfl, .takeQuery s _ fun _ _ hu => hu.unanswered⟩
  | answer =>
    refine ⟨_, rfl, ?_⟩
    split
    · exact hself
    · rename_i a rest hfifo
      refine .ite (fun _ => { hself with answerFifo := fun hlen => ?_ }) hself
      rw [hfifo] at hlen
      exact Nat.le_of_succ_le hlen
  | drawEmission =>
    refine ⟨_, rfl, ?_⟩
    split
    · exact hself
    · split
      · exact hself
      · exact .ite (fun _ => hself.depart _ _ _) hself
  | staleDiscard =>
    refine ⟨_, rfl, ?_⟩
    split
    · exact hself
    · split
      · have hdrop : s.KeepsBounds 64 64 { s with emq := s.emq.tail } := { hself with
          emq := fun hlen => by
            show s.emq.tail.length ≤ 256
            rw [List.length_tail]; omega }
        exact hdrop.handPlace _ _
      · exact hself
  | emitCredit count =>
    exact ⟨_, rfl, .ite (fun _ => { hself with credit := fun _ => Nat.min_le_right _ _ }) hself⟩
  | linkReset => exact ⟨_, rfl, .ite (fun _ => hself.linkReset) hself⟩
  | report port depth => exact ⟨_, rfl, .ite (fun _ => hself.applyPort _ _ fun hp => hp.report _ _ _) hself⟩
  | dwellExpiry port =>
    exact ⟨_, rfl, .ite (fun _ => hself.applyPort _ _ fun hp => hp.dwellFall _ _) hself⟩
  | staleExpiry port => exact ⟨_, rfl, .ite (fun _ => (hself.setPort fun hp => hp.goStale _).raise _) hself⟩
  | drawDeadlineExpiry slot position =>
    refine ⟨_, rfl, ?_⟩
    split
    · exact hself
    · split
      · exact hself
      · exact .ite (fun _ => hself.reclaim _ _ _) hself
  | idleExpiry slot =>
    refine ⟨_, rfl, ?_⟩
    split
    · exact hself
    · exact .ite (fun _ => hself.expireGather _ _ _) hself
  | lifetimeExpiry slot =>
    refine ⟨_, rfl, ?_⟩
    split
    · exact hself
    · exact .ite (fun _ => hself.expireGather _ _ _) hself
  | lingerExpiry slot =>
    refine ⟨_, rfl, ?_⟩
    split
    · exact hself
    · exact .ite (fun _ => hself.freeSlot _ _) hself
  | enablePort port tag =>
    exact ⟨_, rfl, .ite (fun _ => (hself.enableAt _).finishCommand _ _ _ _) (hself.finishCommand _ _ _ _)⟩
  | disablePort port tag =>
    exact ⟨_, rfl, .ite (fun _ => (hself.disableAt _).finishCommand _ _ _ _) (hself.finishCommand _ _ _ _)⟩
  | retireGather port tag =>
    refine ⟨_, rfl, .ite (fun _ => ?_) (hself.finishCommand _ _ _ _)⟩
    split
    · exact hself.finishCommand _ _ _ _
    · exact ((hself.retire _).passIf _ _).finishCommand _ _ _ _
  | purgeAll port tag => exact ⟨_, rfl, ((hself.retireAll _).passes _).finishCommand _ _ _ _⟩
  | metersStart port tag => exact ⟨_, rfl, (hself.mapMeters _).finishCommand _ _ _ _⟩
  | metersStop port tag => exact ⟨_, rfl, (hself.mapMeters _).finishCommand _ _ _ _⟩
  | badCommand code port tag => exact ⟨_, rfl, .ite (fun _ => hself.finishCommand _ _ _ _) hself⟩
  | profileWrite value =>
    refine ⟨_, rfl, ?_⟩
    split
    · rename_i number w _
      have hwrite : s.KeepsBounds 64 64 (s.setProfile number ((s.profileAt number).store w value)).advance :=
        hself.congr rfl
      exact .ite (fun _ => hwrite.clampPorts number) hwrite
    · exact hself
  | profileNumberWrite value =>
    refine ⟨_, rfl, ?_⟩
    split
    · exact hself.writePort (fun hp => hp.setProfile _ _) _
    · exact hself
  | adminFloorWrite value =>
    refine ⟨_, rfl, ?_⟩
    split
    · rename_i p _
      have hfloor : (s.port p).Limited →
          (Port.refloor (s.profileOf p) { s.port p with adminFloor := field value 0 3 }).Limited :=
        fun hp => ⟨hp.flight, hp.outstanding, Profile.floor_le _ _ _⟩
      exact hself.writePort hfloor _
    · exact hself
  | portStatusRead =>
    refine ⟨_, rfl, ?_⟩
    split
    · exact State.KeepsBounds.setPort (t := s.readWindow) (hself.congr rfl) fun hp => { hp with }
    · exact hself
  | exemptWrite value =>
    refine ⟨_, rfl, ?_⟩
    split
    · exact hself.congr rfl
    · exact hself
  | meterConfigWrite value =>
    refine ⟨_, rfl, ?_⟩
    split
    · exact hself.congr rfl
    · exact hself
  | meterCountWrite value =>
    refine ⟨_, rfl, ?_⟩
    split
    · exact hself.congr rfl
    · exact hself.congr rfl
    · exact hself
  | meterFlagClear value =>
    refine ⟨_, rfl, ?_⟩
    split
    · exact hself.congr rfl
    · exact hself
  | tableWindowRead =>
    refine ⟨_, rfl, ?_⟩
    split
    · exact hself
    · exact hself.congr rfl
  | attnSummaryWrite value => exact ⟨_, rfl, hself.congr rfl⟩
  | attnEnableWrite value => exact ⟨_, rfl, hself.congr rfl⟩
  | poolLowMarkWrite value => exact ⟨_, rfl, { hself with poolLowMark := fun _ => Nat.min_le_right _ _ }⟩
  | registerWrite index lanes value =>
    exact ⟨_, rfl, .ite (fun _ => .ite (fun _ => hself.congr rfl) (.ite (fun _ => hself.congr rfl) hself)) hself⟩
  | timebaseAdvance =>
    refine ⟨_, rfl, ?_⟩
    split
    · exact hself
    · exact hself.congr rfl

/-- The bounds of the state are those that every operation keeps. -/
theorem State.Bounded.of_keeps (h : s.Bounded) (ht : s.KeepsBounds 64 64 t) : t.Bounded := by
  have hport := fun p => ht.port p ⟨h.flight p, h.outstanding p, h.effFloor p⟩
  exact ⟨ht.queryFifo h.queryFifo, ht.answerFifo h.answerFifo, ht.credit h.credit, ht.emq h.emq, ht.pointer h.pointer,
    ht.poolLowMark h.poolLowMark, fun p => (hport p).flight, fun p => (hport p).outstanding,
    fun p => (hport p).effFloor⟩

end

/-- Settles O2: every arm of the dispatch answers a next state, and no meaning writes the waiting commands. -/
theorem everyCommandAnswersNext : Obligations.EveryCommandAnswersNext := by
  intro c s
  obtain ⟨t, ht, hkeep⟩ := exec_keepsBounds c s
  exact ⟨t, ht, hkeep.pending⟩

/-- Settles O5: a step carries out the front command, and every command keeps the bounds. -/
theorem boundsKept : Obligations.BoundsKept := by
  intro s t h hstep
  unfold step at hstep
  split at hstep
  · exact Host.Outcome.next.inj hstep ▸ h
  · rename_i c rest _
    obtain ⟨u, hu, hkeep⟩ := exec_keepsBounds c { s with pending := rest }
    obtain rfl := Host.Outcome.next.inj (hstep.symm.trans hu)
    have hwait : ({ s with pending := rest } : State).Bounded := { h with }
    exact hwait.of_keeps hkeep

end Sys2Proof.Machine

/-! The emission credit (R23). -/

namespace Sys2Proof.Machine

section
variable {s t : State} {e : Emission}

theorem State.credit_of_takeableEntry (h : s.takeableEntry = some e) : 0 < s.credit := by
  unfold State.takeableEntry at h
  split at h
  · rename_i hc
    rw [Bool.and_eq_true, decide_eq_true_eq] at hc
    exact hc.2
  · cases h

/-- A departure takes one credit, and the handing of the freed place none (R23, R142). -/
theorem State.depart_credit (s : State) (e : Emission) (g : Gather) (m : Member) :
    (s.depart e g m).credit = s.credit - 1 := by
  simp [State.depart]

theorem exec_drawEmission_credit (h : exec .drawEmission s = .next t) : t = s ∨ t.credit + 1 = s.credit := by
  obtain rfl := Host.Outcome.next.inj h
  split
  · exact .inl rfl
  · rename_i e he
    have hpos := State.credit_of_takeableEntry he
    split
    · exact .inl rfl
    · split
      · rw [State.depart_credit]; omega
      · exact .inl rfl

theorem exec_staleDiscard_credit (h : exec .staleDiscard s = .next t) : t.credit = s.credit := by
  obtain rfl := Host.Outcome.next.inj h
  split
  · rfl
  · split
    · rw [State.handPlace_credit]
    · rfl

end

/-- Settles O18: the departure takes the credit, the resets clear it, and every command keeps its bound. -/
theorem emissionCredit : Obligations.EmissionCredit := by
  refine ⟨fun s n h => ?_, fun s t => exec_drawEmission_credit, fun s t => exec_staleDiscard_credit, fun s t ht => ?_,
    fun c s t hc h ht => ?_, fun c s t hs ht => ?_, fun s e rest => State.takeableEntry_of_up⟩
  · simp only [exec, execEmitCredit, State.isUp_eq_true h, ite_true]
    rfl
  · obtain rfl := Host.Outcome.next.inj ht
    rfl
  · obtain ⟨l, hl⟩ := exec_reset_of_up hc h
    obtain rfl := Host.Outcome.next.inj (ht.symm.trans hl)
    rfl
  · obtain ⟨u, hu, hkeep⟩ := exec_keepsBounds c s
    obtain rfl := Host.Outcome.next.inj (ht.symm.trans hu)
    exact hkeep.credit hs

end Sys2Proof.Machine

/-! REPORT at an enabled port: the steps of R99 one by one, and what they make of the port. -/

namespace Sys2Proof.Machine

section
variable (pf : Profile) (now : Time) (depth : Nat) (pt : Port)

/-! ## The steps of a report -/

/-- The mode after steps 2 and 3 of a report: the target where it lies above, else the mode as it was (R102). -/
def Port.climbed : Mode := if pt.mode.level < (pf.target depth).level then pf.target depth else pt.mode

theorem Mode.level_calm_lt {m m' : Mode} (h : m.level < m'.level) : m' ≠ .calm := by
  rintro rfl
  exact absurd h (Nat.not_lt_zero _)

theorem Mode.level_le_surge (m : Mode) : m.level ≤ Mode.surge.level := by cases m <;> decide

/-- Steps 2 and 3 of a report: the dwell timer is armed for a mode that was raised or that the activity test found active
(R102 to R104). -/
theorem Port.climb_eq : pt.climb pf now depth = { pt with
    mode := pt.climbed pf depth
    dwell := if pt.mode.level < (pf.target depth).level ∨ (pt.climbed pf depth ≠ .calm ∧
        pf.mark (pt.climbed pf depth) - pf.hysteresis.toNat ≤ depth)
      then .armed (after now (pf.dwellTime (pt.climbed pf depth))) else pt.dwell } := by
  unfold Port.climb Port.climbed
  by_cases hup : pt.mode.level < (pf.target depth).level
  · simp [hup, Profile.armDwell, Mode.level_calm_lt hup]
  · by_cases hactive : pt.mode ≠ .calm ∧ pf.mark pt.mode - pf.hysteresis.toNat ≤ depth
    · have htest : pt.mode ≠ .calm ∧ pf.activity pt.mode depth = true := by simpa [Profile.activity] using hactive
      simp [hup, htest, hactive, Profile.armDwell]
    · have htest : ¬(pt.mode ≠ .calm ∧ pf.activity pt.mode depth = true) := by simpa [Profile.activity] using hactive
      rw [if_neg hup, if_neg htest, if_neg hup, if_neg (by rintro (h | h) <;> contradiction)]

/-- Steps 4 and 5 of a report: F is brought into its bounds with the flags, at-floor latched in SURGE (R111, R112). -/
theorem Port.stepFlight_eq : pt.stepFlight pf = { pt with
    flight := if pt.stepped pf < pf.fMin.toNat then pf.fMin.toNat
      else if (pf.fMaxe : Int) < pt.stepped pf then pf.fMaxe else (pt.stepped pf).toNat
    atFloor := pt.atFloor || decide (pt.stepped pf < pf.fMin.toNat) || decide (pt.mode = .surge)
    atCeiling := pt.atCeiling ||
      (decide ((pf.fMin.toNat : Int) ≤ pt.stepped pf) && decide ((pf.fMaxe : Int) < pt.stepped pf)) } := by
  unfold Port.stepFlight Port.bring
  generalize pt.stepped pf = f
  by_cases hlow : f < pf.fMin.toNat
  · simp [hlow, Int.not_le.2 hlow]
  · by_cases hhigh : (pf.fMaxe : Int) < f
    · simp [hlow, hhigh, Int.not_lt.1 hlow]
    · simp [hlow, hhigh]

/-- The port after steps 1 to 6 of a report (R99). -/
theorem Port.report_eq : pt.report pf now depth = Port.refloor pf (Port.stepFlight pf { pt with
    mode := pt.climbed pf depth
    staleAt := armUnlessZero now pf.staleTime.toNat
    stale := false
    dwell := if pt.mode.level < (pf.target depth).level ∨ (pt.climbed pf depth ≠ .calm ∧
        pf.mark (pt.climbed pf depth) - pf.hysteresis.toNat ≤ depth)
      then .armed (after now (pf.dwellTime (pt.climbed pf depth)))
      else if pt.stale then pt.dwell.resume now else pt.dwell }) := by
  rw [Port.report, Port.climb_eq]
  rfl

theorem Port.report_mode : (pt.report pf now depth).mode = pt.climbed pf depth := by
  rw [Port.report_eq, Port.stepFlight_eq]
  rfl

/-- A report does not leave SURGE (R105). -/
theorem Port.climbed_of_surge (h : pt.mode = .surge) : pt.climbed pf depth = .surge := by
  unfold Port.climbed
  rw [h, if_neg (Nat.not_lt.2 (Mode.level_le_surge _))]

/-- What a report does beyond its port: SURGE entry, and the pass of a notice (R113, R116). -/
theorem State.applyPort_report (s : State) (p : Nat) : s.applyPort p pt (pt.report pf now depth) =
    (if pt.mode ≠ .surge ∧ pt.climbed pf depth = .surge then (s.setPort p (pt.report pf now depth)).surgeEntry p
      else s.setPort p (pt.report pf now depth)).passIf (givesNotice pt (pt.report pf now depth)) p := by
  have hstays : leavesSurge pt (pt.report pf now depth) = false := by
    rw [leavesSurge, Port.report_mode]
    by_cases h : pt.mode = .surge
    · simp [Port.climbed_of_surge pf depth pt h]
    · simp [h]
  simp [State.applyPort, hstays, entersSurge, Port.report_mode]

theorem Profile.mark_eq (m : Mode) : pf.mark m = match m with
    | .calm => 0 | .fill => pf.m1e | .crowd => pf.m2e | .surge => pf.m3e := by cases m <;> rfl

/-- A STALE port's suspended dwell timer runs on from a report (R100). -/
theorem Timer.resume_eq (t : Timer) (stale : Bool) : (if stale then t.resume now else t) = match t with
    | .suspended r => if stale then .armed (after now r) else t
    | _ => t := by
  cases t <;> cases stale <;> rfl

end

/-- Settles O44: `Port.report_eq` and `Port.stepFlight_eq` give the port, `State.applyPort_report` what follows. -/
theorem reportMovesModeAndFlight : Obligations.ReportMovesModeAndFlight := by
  refine ⟨fun s port depth hno => ?_, ?_⟩
  · have hguard : (decide (port.toNat < Config.ports) && (s.port port.toNat).enabled) = false := by
      rcases hno with hge | hoff
      · rw [decide_eq_false (show ¬port.toNat < Config.ports from Nat.not_lt.2 hge), Bool.false_and]
      · rw [hoff, Bool.and_false]
    simp [exec, execReport, Bool.and_assoc, hguard]
  · intro s port depth h hp he p pt pf now d m1e m2e m3e target raised mode mark full resumed armed stepped fMin fMaxe new
      u entered
    have hmode : pt.climbed pf d = mode := rfl
    have hnew : pt.report pf now d = new := by
      rw [Port.report_eq, Port.stepFlight_eq, hmode, Profile.mark_eq, Profile.dwellTime_eq, Timer.resume_eq,
        armUnlessZero_toNat]
      rfl
    have hrun : exec (.report port depth) s = .next (s.applyPort p pt (pt.report pf now d)) := by
      have hen : (s.port port.toNat).enabled = true := he
      simp only [exec, execReport, State.isUp_eq_true h, Config.ports, hp, hen, decide_true, Bool.and_self, ite_true]
      rfl
    rw [hrun, State.applyPort_report, hmode, hnew, givesNotice, ← Bool.decide_or]
    rfl
end Sys2Proof.Machine

/-! ## The link reset's walk (R28) -/

namespace Sys2Proof.Machine

/-! What the walk makes of one member and of one record. -/

/-- A member after the walk: a queued draw is taken back, what has departed is covered by a fresh deadline, and the member
waits where it wants more (R28, R87, R92). -/
def Member.returned (pf : Profile) (now : Time) (m : Member) : Member :=
  if m.drawQueued = 0 then m
  else { m with
    drawQueued := 0
    drawDeadline := if 0 < m.drawOut then some (after now pf.drawLife) else none
    phase := if Member.wantsMore pf { m with drawQueued := 0 } then .waiting else .drawn }

theorem Member.returned_of_zero {pf : Profile} {now : Time} {m : Member} (h : m.drawQueued = 0) :
    m.returned pf now = m := if_pos h

@[simp] theorem Member.returned_entry (pf : Profile) (now : Time) (m : Member) :
    (m.returned pf now).entry = m.entry := by
  unfold Member.returned; split <;> rfl

@[simp] theorem Member.returned_token (pf : Profile) (now : Time) (m : Member) :
    (m.returned pf now).token = m.token := by
  unfold Member.returned; split <;> rfl

@[simp] theorem Member.returned_drawQueued (pf : Profile) (now : Time) (m : Member) :
    (m.returned pf now).drawQueued = 0 := by
  unfold Member.returned; split
  · assumption
  · rfl

/-- The record `g` of an entry `e` of its member `m` when the walk has taken the entry. -/
def State.unqueuedRecord (s : State) (e : Emission) (g : Gather) (m : Member) : Gather :=
  { g.setMember (m.returned (s.profileOf e.port) s.timebase) with
    ring := g.ring ++ if (s.rewaits e).isSome then [e.entry] else [] }

/-- The record `g` of slot `k` when the walk has taken every entry. -/
def State.walkedRecord (s : State) (k : Nat) (g : Gather) : Gather :=
  { g with
    ring := g.ring ++ s.rewaitedAt k
    roster := g.roster.map (Member.returned (s.profileOf g.port) s.timebase) }

section
variable {n : Nat} {s t : State} {e x : Emission} {g g' : Gather} {m : Member}

theorem State.rewaits_iff : s.rewaits e = some g ↔ ∃ m, s.validMember e = some (g, m) ∧ e.entry ∉ g.ring ∧
    Member.wantsMore (s.profileOf e.port) { m with drawQueued := 0 } = true := by
  unfold State.rewaits
  cases hv : s.validMember e with
  | none => simp
  | some gm =>
    obtain ⟨h, m⟩ := gm
    simp only [Option.some.injEq, Prod.mk.injEq]
    constructor
    · split
      · rename_i hc
        rintro ⟨⟩
        exact ⟨m, ⟨rfl, rfl⟩, hc⟩
      · nofun
    · rintro ⟨m', ⟨rfl, rfl⟩, hc⟩
      rw [if_pos hc]

theorem State.rewaits_none (h : s.validMember e = none) : s.rewaits e = none := by
  unfold State.rewaits; rw [h]

/-- The member of a valid entry is off the wait ring, so it joins it exactly where it wants more (R73, R87). -/
theorem State.Sound.rewaits_isSome (h : s.Sound n) (he : e ∈ s.emq) (hv : s.validMember e = some (g, m)) :
    m.entry ∉ g.ring ∧
      ((s.rewaits e).isSome = true ↔ Member.wantsMore (s.profileOf e.port) { m with drawQueued := 0 } = true) := by
  obtain ⟨hg, ha, -, hm, hentry, -, hpos⟩ := h.valid he hv
  have hl := h.active hg ha
  have hoff : m.entry ∉ g.ring := by
    rw [hl.mem_ring hm, (Member.drawn_of_queued (hl.phases m hm) hpos).1]
    nofun
  refine ⟨hoff, ?_⟩
  rw [Option.isSome_iff_exists]
  constructor
  · rintro ⟨y, hy⟩
    obtain ⟨m', hv', -, hmore⟩ := State.rewaits_iff.1 hy
    rw [hv] at hv'
    cases hv'
    exact hmore
  · exact fun hmore => ⟨g, State.rewaits_iff.2 ⟨m, hv, hentry ▸ hoff, hmore⟩⟩

/-- The re-evaluation that follows the taking back of a queued draw (R28, R87). -/
theorem State.Sound.reevaluate_unqueued (h : s.Sound n) (he : e ∈ s.emq) (hv : s.validMember e = some (g, m)) :
    (g.setMember (m.unqueued (s.profileOf e.port) s.timebase)).reevaluate (s.profileOf e.port) m.entry =
      s.unqueuedRecord e g m := by
  obtain ⟨hg, ha, -, hm, hentry, -, hpos⟩ := h.valid he hv
  obtain ⟨hoff, hsome⟩ := h.rewaits_isSome he hv
  have hl := h.active hg ha
  obtain ⟨hd, hopen, -⟩ := Member.drawn_of_queued (hl.phases m hm) hpos
  obtain ⟨-, -, -, -, -, -, hdead, -⟩ := (Member.phaseAgrees_iff _).1 (hl.phases m hm)
  have hnone : m.drawDeadline = none := by
    rw [← Option.not_isSome_iff_eq_none, hdead]; omega
  have hfind := Gather.member?_setMember hl.entries hm (m' := m.unqueued (s.profileOf e.port) s.timebase) rfl
  have hmore : (m.unqueued (s.profileOf e.port) s.timebase).wantsMore (s.profileOf e.port) =
    Member.wantsMore (s.profileOf e.port) { m with drawQueued := 0 } := rfl
  have hphase : (m.unqueued (s.profileOf e.port) s.timebase).phase = .drawn := hd
  have hreturned : ∀ ph, { m.unqueued (s.profileOf e.port) s.timebase with phase := ph } =
      { m with
        drawQueued := 0
        drawDeadline := if 0 < m.drawOut then some (after s.timebase (s.profileOf e.port).drawLife) else none
        phase := ph } := by
    intro ph; rw [← hnone]; rfl
  have hset : ∀ ph, (g.setMember (m.unqueued (s.profileOf e.port) s.timebase)).setMember
      { m.unqueued (s.profileOf e.port) s.timebase with phase := ph } =
        g.setMember { m.unqueued (s.profileOf e.port) s.timebase with phase := ph } :=
    fun ph => Gather.setMember_setMember g (m := m.unqueued (s.profileOf e.port) s.timebase)
      (m' := { m.unqueued (s.profileOf e.port) s.timebase with phase := ph }) rfl
  have hopen' : ¬0 < (m.unqueued (s.profileOf e.port) s.timebase).openLeft := by
    show ¬0 < m.openLeft; omega
  rw [Gather.reevaluate_off _ _ _ _ hfind ha (by rw [hphase]; nofun) (by rw [hphase]; nofun) hoff, hmore,
    State.unqueuedRecord, Member.returned, if_neg (Nat.ne_of_gt hpos), if_neg hopen', hset, hset, hreturned, hreturned,
    ← hentry]
  by_cases hw : Member.wantsMore (s.profileOf e.port) { m with drawQueued := 0 } = true
  · rw [if_pos hw, if_pos hw, if_pos (hsome.2 hw)]
    rfl
  · rw [if_neg hw, if_neg hw, if_neg (mt hsome.1 hw), List.append_nil]
    rfl

end

/-! What the walk's taking of one valid entry does. -/

/-- The record `g` joins the queue of class `c` at port `p` when the walk of a link reset puts its first member on its
wait ring (R28, R123, R125). -/
abbrev Gather.JoinsQueue (g : Gather) (p c : Nat) : Prop :=
  g.port = p ∧ g.cls = c ∧ g.suspended = false ∧ g.ring = []

/-- The walk puts the member of entry `e` on its wait ring, and the record joins the queue of class `c` at port `p`
by it, where it is not on it by then. -/
def State.requeues (s : State) (p c : Nat) (e : Emission) : Bool :=
  match s.rewaits e with
  | none => false
  | some g => decide (g.JoinsQueue p c)

/-- `t` is `s` with a valid entry `e` of the member `m` of the record `g` taken back (R28): the record and its place on its
class queues change with the member, and the other records and the pressure stand. -/
structure State.Unqueues (s : State) (e : Emission) (g : Gather) (m : Member) (t : State) : Prop where
  record : t.slot e.slot = ⟨(s.slot e.slot).generation, some (s.unqueuedRecord e g m)⟩
  others : ∀ k, k ≠ e.slot → t.slot k = s.slot k
  pressure : ∀ p, (t.port p).SamePressure (s.port p) ∧ (t.port p).blocked = (s.port p).blocked
  queue : ∀ p c, (t.port p).queue c = (s.port p).queue c ++ if s.requeues p c e then [e.slot] else []
  profiles : t.profiles = s.profiles
  timebase : t.timebase = s.timebase

section
variable {n k : Nat} {s t : State} {e x : Emission} {g g' : Gather} {m : Member}

/-- A record that has a member put on its wait ring is on the class queue then; it was before unless its wait ring was
empty (R123). -/
theorem State.unqueuedRecord_queued (ha : g.stage = .active) :
    (s.unqueuedRecord e g m).queued = true ↔
      g.queued = true ∨ (s.rewaits e).isSome = true ∧ g.suspended = false ∧ g.ring = [] := by
  have hring : (s.unqueuedRecord e g m).ring = g.ring ++ if (s.rewaits e).isSome then [e.entry] else [] := rfl
  rw [Gather.queued_iff, Gather.queued_iff, hring]
  show g.stage = .active ∧ g.suspended = false ∧ _ ↔ _
  by_cases hr : g.ring = [] <;> by_cases hw : (s.rewaits e).isSome = true <;> simp [ha, hr, hw]

theorem State.requeues_iff (p c : Nat) : s.requeues p c e = true ↔ ∃ g, s.rewaits e = some g ∧ g.JoinsQueue p c := by
  unfold State.requeues
  cases s.rewaits e <;> simp

/-- The record that the walk puts a member of on a wait ring is the one that the entry names. -/
theorem State.rewaits_of_valid (hv : s.validMember e = some (g, m)) (h : s.rewaits e = some g') : g' = g := by
  obtain ⟨m', hv', -⟩ := State.rewaits_iff.1 h
  rw [hv] at hv'
  cases hv'
  rfl

theorem State.requeues_of_valid (hv : s.validMember e = some (g, m)) (p c : Nat) :
    s.requeues p c e = true ↔ (s.rewaits e).isSome = true ∧ g.JoinsQueue p c := by
  rw [State.requeues_iff, Option.isSome_iff_exists]
  constructor
  · rintro ⟨y, hy, hj⟩
    exact ⟨⟨y, hy⟩, State.rewaits_of_valid hv hy ▸ hj⟩
  · rintro ⟨⟨y, hy⟩, hj⟩
    exact ⟨y, hy, (State.rewaits_of_valid hv hy).symm ▸ hj⟩

/-- The class queue of a record whose member's queued draw is taken back (R123, R125). -/
theorem State.queue_unqueued (ha : g.stage = .active) (c : Nat) :
    ((s.putGather e.slot g (s.unqueuedRecord e g m)).port g.port).queue c =
      (s.port g.port).queue c ++
        if (s.rewaits e).isSome = true ∧ g.JoinsQueue g.port c then [e.slot] else [] := by
  obtain ⟨-, -, -, -, -, hqueue⟩ := State.putGather_cases s e.slot g (s.unqueuedRecord e g m) rfl
  have hnew := State.unqueuedRecord_queued (s := s) (e := e) (m := m) ha
  have hcls : (s.unqueuedRecord e g m).cls = g.cls := rfl
  rw [hqueue, keepsPlace, hcls]
  by_cases hq : g.queued = true
  · have hne : g.ring ≠ [] := (Gather.queued_iff.1 hq).2.2
    simp [hq, hnew.2 (.inl hq), Gather.JoinsQueue, hne]
  · have hnew' : (s.unqueuedRecord e g m).queued = true ↔ _ := hnew.trans (or_iff_right hq)
    have hiff : ((s.unqueuedRecord e g m).queued = true ∧ c = g.cls) ↔
        (s.rewaits e).isSome = true ∧ g.JoinsQueue g.port c := by
      rw [hnew', Gather.JoinsQueue]
      constructor
      · rintro ⟨⟨hw, hs, hr⟩, rfl⟩; exact ⟨hw, rfl, rfl, hs, hr⟩
      · rintro ⟨hw, -, rfl, hs, hr⟩; exact ⟨⟨hw, hs, hr⟩, rfl⟩
    simp only [hq, Bool.false_and, Bool.false_eq_true, if_false, false_and, hiff]

/-- One valid entry of the walk (R28). -/
theorem State.Sound.walkEntry_unqueues (h : s.Sound n) (he : e ∈ s.emq) (hv : s.validMember e = some (g, m))
    (called : List Nat) :
    s.Unqueues e g m (Machine.walkEntry (s, called) e).1 ∧
      (Machine.walkEntry (s, called) e).2 = e.port :: called := by
  obtain ⟨hg, ha, hport, -, -, -, -⟩ := h.valid he hv
  have hwalk : Machine.walkEntry (s, called) e =
      ((s.putGather e.slot g (s.unqueuedRecord e g m)).giveBack e.port e.cells, e.port :: called) := by
    simp only [Machine.walkEntry, hv, h.reevaluate_unqueued he hv]
  obtain ⟨hrec, hothers, hports, hself, -, -⟩ := State.putGather_cases s e.slot g (s.unqueuedRecord e g m) rfl
  rw [hwalk]
  refine ⟨⟨hrec, hothers, fun p => ?_, fun p c => ?_, ?_, ?_⟩, rfl⟩
  · have hput : ((s.putGather e.slot g (s.unqueuedRecord e g m)).port p).SamePressure (s.port p) ∧
        ((s.putGather e.slot g (s.unqueuedRecord e g m)).port p).blocked = (s.port p).blocked := by
      by_cases hp : p = g.port
      · subst hp
        have hblocked := congrArg Port.blocked hself
        exact ⟨congrArg (fun v : Port => { v with outstanding := 0, queues := [], blocked := false }) hself, hblocked⟩
      · rw [hports p hp]; exact ⟨rfl, rfl⟩
    rw [State.port_giveBack]
    split
    · rename_i hp; subst hp; exact hput
    · exact hput
  · rw [State.queue_giveBack]
    by_cases hp : p = g.port
    · subst hp
      rw [State.queue_unqueued ha]
      simp only [State.requeues_of_valid hv]
    · have hnot : ¬s.requeues p c e = true := by
        rw [State.requeues_of_valid hv]
        rintro ⟨-, hj, -⟩
        exact hp hj.symm
      rw [hports p hp, if_neg hnot, List.append_nil]
  · exact s.putGather_profiles e.slot g _
  · exact s.putGather_timebase e.slot g _

end

/-! What the taking of one valid entry leaves for the entries behind it. -/

/-- The member of another entry number stands when a member is replaced. -/
theorem Gather.member?_setMember_ne (g : Gather) {m : Member} {e : Nat} (hne : e ≠ m.entry) :
    (g.setMember m).member? e = g.member? e := by
  unfold Gather.member? Gather.setMember
  dsimp only
  induction g.roster with
  | nil => rfl
  | cons y l ih =>
    rw [List.map_cons, List.find?_cons, List.find?_cons, ih]
    by_cases hy : y.entry = m.entry
    · rw [if_pos hy, hy, beq_false_of_ne (Ne.symm hne)]
    · rw [if_neg hy]

section
variable {n k : Nat} {s t : State} {e x : Emission} {g g' : Gather} {m m' : Member}

theorem State.Unqueues.profileOf (h : s.Unqueues e g m t) (p : Nat) : t.profileOf p = s.profileOf p := by
  obtain ⟨-, hprofile, -⟩ := (h.pressure p).1.agree
  rw [State.profileOf, State.profileOf, hprofile, State.profileAt, State.profileAt, h.profiles]

theorem State.Unqueues.gather? (h : s.Unqueues e g m t) : t.gather? e.slot = some (s.unqueuedRecord e g m) :=
  congrArg Slot.body h.record

/-- No entry of the member is valid when its queued draw has been taken back. -/
theorem State.Unqueues.validMember_same (h : s.Unqueues e g m t) (hs : s.Sound n) (he : e ∈ s.emq)
    (hv : s.validMember e = some (g, m)) (hslot : x.slot = e.slot) (hentry : x.entry = e.entry) (hcells : 1 ≤ x.cells) :
    t.validMember x = none := by
  obtain ⟨hg, ha, -, hm, hme, -, -⟩ := hs.valid he hv
  have hfind : (s.unqueuedRecord e g m).member? m.entry = some (m.returned (s.profileOf e.port) s.timebase) :=
    Gather.member?_setMember (hs.active hg ha).entries hm (Member.returned_entry _ _ _)
  by_contra hne
  obtain ⟨⟨y, z⟩, hyz⟩ := Option.ne_none_iff_exists'.1 hne
  obtain ⟨hy, -, -, -, -, hz, -, hqueued⟩ := State.validMember_iff.1 hyz
  rw [hslot, h.gather?] at hy
  obtain rfl := Option.some.inj hy
  rw [hentry, ← hme, hfind] at hz
  obtain rfl := Option.some.inj hz
  rw [Member.returned_drawQueued] at hqueued
  omega

/-- An entry of another member of the record is valid exactly where it was, and names the record as it is now. -/
theorem State.Unqueues.validMember_record (h : s.Unqueues e g m t) (hv : s.validMember e = some (g, m))
    (hslot : x.slot = e.slot) (hentry : x.entry ≠ e.entry) :
    t.validMember x = some (g', m') ↔ g' = s.unqueuedRecord e g m ∧ s.validMember x = some (g, m') := by
  obtain ⟨hg, -, -, -, -, hm, -, -⟩ := State.validMember_iff.1 hv
  have hme := (Gather.mem_of_member? hm).2
  have hfind : (s.unqueuedRecord e g m).member? x.entry = g.member? x.entry :=
    Gather.member?_setMember_ne g (by rw [Member.returned_entry, hme]; exact hentry)
  rw [State.validMember_iff, State.validMember_iff, hslot, h.gather?, h.record, hg]
  constructor
  · rintro ⟨hg', hrest⟩
    obtain rfl := Option.some.inj hg'
    rw [hfind] at hrest
    exact ⟨rfl, rfl, hrest⟩
  · rintro ⟨rfl, -, hrest⟩
    rw [← hfind] at hrest
    exact ⟨rfl, hrest⟩

/-- The valid entries after the taking of `e` are those that were valid and are not of the same member. -/
theorem State.Unqueues.validMember_isSome (h : s.Unqueues e g m t) (hs : s.Sound n) (he : e ∈ s.emq)
    (hv : s.validMember e = some (g, m)) (hcells : 1 ≤ x.cells) :
    (t.validMember x).isSome = true ↔
      (s.validMember x).isSome = true ∧ ¬(x.slot = e.slot ∧ x.entry = e.entry) := by
  by_cases hslot : x.slot = e.slot
  · by_cases hentry : x.entry = e.entry
    · simp [h.validMember_same hs he hv hslot hentry hcells, hslot, hentry]
    · obtain ⟨hg, -⟩ := hs.valid he hv
      have hnot : ¬(x.slot = e.slot ∧ x.entry = e.entry) := fun hx => hentry hx.2
      rw [and_iff_left hnot, Option.isSome_iff_exists, Option.isSome_iff_exists]
      constructor
      · rintro ⟨⟨y, z⟩, hyz⟩
        exact ⟨_, ((h.validMember_record hv hslot hentry).1 hyz).2⟩
      · rintro ⟨⟨y, z⟩, hyz⟩
        have hy := (State.validMember_iff.1 hyz).1
        rw [hslot, hg] at hy
        obtain rfl := Option.some.inj hy
        exact ⟨_, (h.validMember_record hv hslot hentry).2 ⟨rfl, hyz⟩⟩
  · rw [State.validMember_congr (h.others x.slot hslot)]
    simp [hslot]

/-- The entries that the rest of the walk puts on wait rings are those that it would have put there, but for those of the
same member. -/
theorem State.Unqueues.rewaits_record (h : s.Unqueues e g m t) (hv : s.validMember e = some (g, m))
    (hslot : x.slot = e.slot) (hentry : x.entry ≠ e.entry) :
    t.rewaits x = some g' ↔ g' = s.unqueuedRecord e g m ∧ s.rewaits x = some g := by
  have hring : x.entry ∉ (s.unqueuedRecord e g m).ring ↔ x.entry ∉ g.ring := by
    unfold State.unqueuedRecord
    split <;> simp [hentry]
  rw [State.rewaits_iff, State.rewaits_iff, h.profileOf]
  constructor
  · rintro ⟨y, hy, hoff, hmore⟩
    obtain ⟨rfl, hx⟩ := (h.validMember_record hv hslot hentry).1 hy
    exact ⟨rfl, y, hx, hring.1 hoff, hmore⟩
  · rintro ⟨rfl, y, hx, hoff, hmore⟩
    exact ⟨y, (h.validMember_record hv hslot hentry).2 ⟨rfl, hx⟩, hring.2 hoff, hmore⟩

theorem State.Unqueues.rewaits_others (h : s.Unqueues e g m t) (hslot : x.slot ≠ e.slot) :
    t.rewaits x = s.rewaits x := by
  unfold State.rewaits
  rw [State.validMember_congr (h.others x.slot hslot), h.profileOf]

/-- What the walk puts on a wait ring for an entry is put there by every valid entry of the same member. -/
theorem State.rewaits_same (hv : s.validMember e = some (g, m)) (hslot : x.slot = e.slot) (hentry : x.entry = e.entry)
    (hx : s.rewaits x = some g') : g' = g ∧ s.rewaits e = some g := by
  obtain ⟨m', hv', hoff, hmore⟩ := State.rewaits_iff.1 hx
  obtain ⟨hg, -, -, hport, -, hm, -⟩ := State.validMember_iff.1 hv
  obtain ⟨hg', -, -, hport', -, hm', -⟩ := State.validMember_iff.1 hv'
  rw [hslot, hg] at hg'
  obtain rfl := Option.some.inj hg'
  rw [hentry, hm] at hm'
  obtain rfl := Option.some.inj hm'
  exact ⟨rfl, State.rewaits_iff.2 ⟨m, hv, hentry ▸ hoff, by rwa [← hport, hport']⟩⟩

end

/-! The wait rings and the class queues, one entry of the walk after another. -/

/-- A list without its repetitions, taken from the elements that `p` picks, from its head on: `q` picks those behind the
head that do not repeat it. -/
theorem eraseDups_map_filter_cons (f : Emission → Nat) (p q : Emission → Bool) (e : Emission) (l : List Emission)
    (h : ∀ x ∈ l, (q x = true ↔ p x = true ∧ ¬(p e = true ∧ f x = f e))) :
    (((e :: l).filter p).map f).eraseDups = (if p e then [f e] else []) ++ ((l.filter q).map f).eraseDups := by
  by_cases hp : p e = true
  · have hq : l.filter q = (l.filter p).filter fun x => !f x == f e := by
      rw [List.filter_filter]
      exact List.filter_congr fun x hx => by rw [Bool.eq_iff_iff, h x hx]; simp [hp, and_comm]
    rw [List.filter_cons_of_pos hp, List.map_cons, List.eraseDups_cons, List.filter_map, hq, if_pos hp]
    rfl
  · have hq : l.filter q = l.filter p :=
      List.filter_congr fun x hx => by rw [Bool.eq_iff_iff, h x hx]; simp [hp]
    rw [List.filter_cons_of_neg hp, hq, if_neg hp, List.nil_append]

section
variable {n k : Nat} {s t : State} {e x : Emission} {rest : List Emission} {g g' : Gather} {m m' : Member}

theorem State.requeuedAt_eq (s : State) (p c : Nat) :
    s.requeuedAt p c = ((s.emq.filter (s.requeues p c)).map Emission.slot).eraseDups := rfl

theorem State.gather?_of_rewaits (h : s.rewaits e = some g) : s.gather? e.slot = some g := by
  obtain ⟨m, hv, -⟩ := State.rewaits_iff.1 h
  exact (State.validMember_iff.1 hv).1

/-- The walk puts nothing on the wait rings and class queues for a stale head entry. -/
theorem State.rewaitedAt_stale (hemq : s.emq = e :: rest) (hv : s.validMember e = none) (k : Nat) :
    s.rewaitedAt k = State.rewaitedAt { s with emq := rest } k := by
  have hnone := State.rewaits_none hv
  show ((s.emq.filter _).map _).eraseDups = ((rest.filter _).map _).eraseDups
  rw [hemq, List.filter_cons_of_neg (by simp [hnone])]
  rfl

theorem State.requeuedAt_stale (hemq : s.emq = e :: rest) (hv : s.validMember e = none) (p c : Nat) :
    s.requeuedAt p c = State.requeuedAt { s with emq := rest } p c := by
  have hnone : ¬s.requeues p c e = true := by rw [State.requeues_iff, State.rewaits_none hv]; nofun
  rw [State.requeuedAt_eq, hemq, List.filter_cons_of_neg hnone]
  rfl

/-- The entries that the rest of the walk puts on the wait rings are those that it would have put there, but for those of
the member of `e`. -/
theorem State.Unqueues.rewaits_isSome (h : s.Unqueues e g m t) (hs : s.Sound n) (he : e ∈ s.emq)
    (hv : s.validMember e = some (g, m)) (hcells : 1 ≤ x.cells) :
    (t.rewaits x).isSome = true ↔ (s.rewaits x).isSome = true ∧ ¬(x.slot = e.slot ∧ x.entry = e.entry) := by
  obtain ⟨hg, -⟩ := hs.valid he hv
  by_cases hslot : x.slot = e.slot
  · by_cases hentry : x.entry = e.entry
    · simp [State.rewaits_none (h.validMember_same hs he hv hslot hentry hcells), hslot, hentry]
    · have hnot : ¬(x.slot = e.slot ∧ x.entry = e.entry) := fun hx => hentry hx.2
      rw [and_iff_left hnot, Option.isSome_iff_exists, Option.isSome_iff_exists]
      constructor
      · rintro ⟨y, hy⟩
        exact ⟨g, ((h.rewaits_record hv hslot hentry).1 hy).2⟩
      · rintro ⟨y, hy⟩
        have hyg := State.gather?_of_rewaits hy
        rw [hslot, hg] at hyg
        obtain rfl := Option.some.inj hyg
        exact ⟨_, (h.rewaits_record hv hslot hentry).2 ⟨rfl, hy⟩⟩
  · rw [h.rewaits_others hslot]
    simp [hslot]

/-- The entries by which a record joins a class queue in the rest of the walk are those by which it would have joined it,
but for those of the record of `e` where it has joined the queue by `e`. -/
theorem State.Unqueues.requeues_iff (h : s.Unqueues e g m t) (hs : s.Sound n) (he : e ∈ s.emq)
    (hv : s.validMember e = some (g, m)) (hcells : 1 ≤ x.cells) (p c : Nat) :
    t.requeues p c x = true ↔ s.requeues p c x = true ∧ ¬(s.requeues p c e = true ∧ x.slot = e.slot) := by
  obtain ⟨hg, -⟩ := hs.valid he hv
  by_cases hslot : x.slot = e.slot
  · rw [and_iff_left hslot, State.requeues_iff, State.requeues_iff, State.requeues_of_valid hv]
    have hrecord : ∀ y, s.rewaits x = some y → y = g := by
      intro y hy
      have hyg := State.gather?_of_rewaits hy
      rw [hslot, hg] at hyg
      exact (Option.some.inj hyg).symm
    by_cases hentry : x.entry = e.entry
    · rw [State.rewaits_none (h.validMember_same hs he hv hslot hentry hcells)]
      refine iff_of_false (by simp) ?_
      rintro ⟨⟨y, hy, hj⟩, hnot⟩
      obtain ⟨rfl, hsame⟩ := State.rewaits_same hv hslot hentry hy
      exact hnot ⟨by rw [hsame]; rfl, hj⟩
    · have hjoins : (s.unqueuedRecord e g m).JoinsQueue p c ↔
          g.JoinsQueue p c ∧ ¬((s.rewaits e).isSome = true ∧ g.JoinsQueue p c) := by
        show g.port = p ∧ g.cls = c ∧ g.suspended = false ∧ (g.ring ++ _ = []) ↔ _
        by_cases hw : (s.rewaits e).isSome = true <;> simp [hw]
      constructor
      · rintro ⟨y, hy, hj⟩
        obtain ⟨rfl, hx⟩ := (h.rewaits_record hv hslot hentry).1 hy
        obtain ⟨hj', hnot⟩ := hjoins.1 hj
        exact ⟨⟨g, hx, hj'⟩, hnot⟩
      · rintro ⟨⟨y, hy, hj⟩, hnot⟩
        obtain rfl := hrecord y hy
        exact ⟨_, (h.rewaits_record hv hslot hentry).2 ⟨rfl, hy⟩, hjoins.2 ⟨hj, hnot⟩⟩
  · rw [State.requeues_iff, State.requeues_iff, h.rewaits_others hslot]
    simp [hslot]

/-- The wait rings, from a valid head entry on (R28, R87). -/
theorem State.Unqueues.rewaitedAt (h : s.Unqueues e g m t) (hs : s.Sound n) (hv : s.validMember e = some (g, m))
    (hemq : s.emq = e :: rest) (ht : t.emq = rest) (k : Nat) :
    s.rewaitedAt k =
      (if decide (e.slot = k) && (s.rewaits e).isSome then [e.entry] else []) ++ t.rewaitedAt k := by
  have he : e ∈ s.emq := hemq ▸ List.mem_cons_self
  unfold State.rewaitedAt
  rw [hemq, ht]
  refine eraseDups_map_filter_cons Emission.entry _ _ e rest fun x hx => ?_
  obtain ⟨-, hcells, -⟩ := hs.work.emissions x (hemq ▸ List.mem_cons_of_mem e hx)
  simp only [Bool.and_eq_true, decide_eq_true_eq]
  rw [h.rewaits_isSome hs he hv hcells]
  constructor
  · rintro ⟨hk, hsome, hnot⟩
    exact ⟨⟨hk, hsome⟩, fun hc => hnot ⟨hk.trans hc.1.1.symm, hc.2⟩⟩
  · rintro ⟨⟨hk, hsome⟩, hnot⟩
    refine ⟨hk, hsome, fun hc => hnot ⟨⟨hc.1 ▸ hk, ?_⟩, hc.2⟩⟩
    obtain ⟨y, hy⟩ := Option.isSome_iff_exists.1 hsome
    rw [(State.rewaits_same hv hc.1 hc.2 hy).2]
    rfl

/-- The class queues, from a valid head entry on (R28, R123, R125). -/
theorem State.Unqueues.requeuedAt (h : s.Unqueues e g m t) (hs : s.Sound n) (hv : s.validMember e = some (g, m))
    (hemq : s.emq = e :: rest) (ht : t.emq = rest) (p c : Nat) :
    s.requeuedAt p c = (if s.requeues p c e then [e.slot] else []) ++ t.requeuedAt p c := by
  have he : e ∈ s.emq := hemq ▸ List.mem_cons_self
  rw [State.requeuedAt_eq, State.requeuedAt_eq, hemq, ht]
  refine eraseDups_map_filter_cons Emission.slot _ _ e rest fun x hx => ?_
  obtain ⟨-, hcells, -⟩ := hs.work.emissions x (hemq ▸ List.mem_cons_of_mem e hx)
  exact h.requeues_iff hs he hv hcells p c

end

/-! The whole walk, by induction on the Emission Queue. -/

/-- `u` is what the walk of the Emission Queue of `s` leaves of records, ports and class queues (R28). -/
structure State.WalksTo (s u : State) : Prop where
  record : ∀ k g, s.gather? k = some g → u.gather? k = some (s.walkedRecord k g)
  pressure : ∀ p, (u.port p).SamePressure (s.port p) ∧ (u.port p).blocked = (s.port p).blocked
  queue : ∀ p c, (u.port p).queue c = (s.port p).queue c ++ s.requeuedAt p c

/-- The state that the walk of the entries `q` leaves, and the ports whose passes it calls for, after those of `called`. -/
def State.walkOf (s : State) (called : List Nat) (q : List Emission) : State × List Nat :=
  let a := q.foldl walkEntry (s, called)
  ({ a.1 with emq := [] }, a.2)

section
variable {n k : Nat} {s t u : State} {e x : Emission} {rest : List Emission} {g g' : Gather} {m m' : Member}

theorem State.walkOf_emq (s : State) (called : List Nat) (q l : List Emission) :
    State.walkOf { s with emq := l } called q = s.walkOf called q := by
  induction q generalizing s called with
  | nil => rfl
  | cons e q ih =>
    have hstep := walkEntry_emq s called e l
    show State.walkOf (Machine.walkEntry ({ s with emq := l }, called) e).1
      (Machine.walkEntry ({ s with emq := l }, called) e).2 q = _
    rw [hstep]
    exact ih _ _

theorem State.walkOf_cons (s : State) (called : List Nat) (e : Emission) (q l : List Emission) :
    s.walkOf called (e :: q) =
      State.walkOf { (Machine.walkEntry (s, called) e).1 with emq := l } (Machine.walkEntry (s, called) e).2 q :=
  (State.walkOf_emq (Machine.walkEntry (s, called) e).1 _ q l).symm

/-- A member of a lingering record has no queued draw (R45). -/
theorem Gather.drawQueued_lingering (h : g.lawful = true) (ha : g.stage ≠ .active) (hm : m ∈ g.roster) :
    m.drawQueued = 0 := by
  cases hstage : g.stage with
  | active => exact absurd hstage ha
  | linger o =>
    simp only [Gather.lawful, hstage, Bool.and_eq_true, List.all_eq_true] at h
    obtain ⟨-, ⟨⟨⟨-, hleft⟩, -⟩, -⟩, -⟩ := h
    have := hleft m hm
    simp only [Member.hasLeft, Bool.and_eq_true, decide_eq_true_eq] at this
    exact this.1.1.1

/-- A record stands where no member of it has a queued draw and nothing waits in the Emission Queue. -/
theorem State.Sound.walkedRecord_self (h : s.Sound n) (hemq : s.emq = []) (hg : s.gather? k = some g) :
    s.walkedRecord k g = g := by
  have hzero : ∀ m ∈ g.roster, m.drawQueued = 0 := by
    intro m hm
    by_cases ha : g.stage = .active
    · by_contra hne
      obtain ⟨e, he, -⟩ := h.work.queued k g hg ha m hm (Nat.pos_of_ne_zero hne)
      rw [hemq] at he
      exact absurd he List.not_mem_nil
    · exact Gather.drawQueued_lingering (h.work.lawful k g hg) ha hm
  have hroster : g.roster.map (Member.returned (s.profileOf g.port) s.timebase) = g.roster :=
    (List.map_congr_left (g := id) fun m hm => Member.returned_of_zero (hzero m hm)).trans (List.map_id _)
  have hring : s.rewaitedAt k = [] := by rw [State.rewaitedAt, hemq]; rfl
  rw [State.walkedRecord, hroster, hring, List.append_nil]

/-- An empty Emission Queue is walked. -/
theorem State.Sound.walksTo_nil (h : s.Sound n) (hemq : s.emq = []) : s.WalksTo { s with emq := [] } where
  record k g hg := by rw [h.walkedRecord_self hemq hg]; exact hg
  pressure p := ⟨rfl, rfl⟩
  queue p c := by rw [State.requeuedAt_eq, hemq]; exact (List.append_nil _).symm

/-- The walk goes on from a stale head entry. -/
theorem State.WalksTo.stale (h : State.WalksTo { s with emq := rest } u) (hemq : s.emq = e :: rest)
    (hv : s.validMember e = none) : s.WalksTo u where
  record k g hg := by
    rw [h.record k g hg, State.walkedRecord, State.walkedRecord, State.rewaitedAt_stale hemq hv]
    rfl
  pressure := h.pressure
  queue p c := by rw [h.queue p c, State.requeuedAt_stale hemq hv]; rfl

/-- The record of a valid head entry, when the whole walk is over. -/
theorem State.Unqueues.walkedRecord_self (h : s.Unqueues e g m t) (hs : s.Sound n) (hv : s.validMember e = some (g, m))
    (hemq : s.emq = e :: rest) (ht : t.emq = rest) :
    t.walkedRecord e.slot (s.unqueuedRecord e g m) = s.walkedRecord e.slot g := by
  have he : e ∈ s.emq := hemq ▸ List.mem_cons_self
  obtain ⟨hg, ha, hport, hm, -⟩ := hs.valid he hv
  have hprofile : t.profileOf g.port = s.profileOf g.port := h.profileOf g.port
  have hring : (s.unqueuedRecord e g m).ring ++ t.rewaitedAt e.slot = g.ring ++ s.rewaitedAt e.slot := by
    rw [h.rewaitedAt hs hv hemq ht e.slot, decide_eq_true rfl, Bool.true_and, ← List.append_assoc]
    rfl
  have hroster : (s.unqueuedRecord e g m).roster.map (Member.returned (s.profileOf g.port) s.timebase) =
      g.roster.map (Member.returned (s.profileOf g.port) s.timebase) := by
    show ((g.roster.map fun y => if y.entry = (m.returned (s.profileOf e.port) s.timebase).entry then
      m.returned (s.profileOf e.port) s.timebase else y).map _) = _
    rw [List.map_map]
    refine List.map_congr_left fun y hy => ?_
    rw [Function.comp_apply, Member.returned_entry]
    split
    · rename_i hentry
      have hym : y = m := List.inj_on_of_nodup_map (hs.active hg ha).entries hy hm hentry
      rw [hym, ← hport, Member.returned_of_zero (Member.returned_drawQueued _ _ _)]
    · rfl
  show { g with
    ring := (s.unqueuedRecord e g m).ring ++ t.rewaitedAt e.slot
    roster := (s.unqueuedRecord e g m).roster.map (Member.returned (t.profileOf g.port) t.timebase) } = _
  rw [hring, hprofile, h.timebase, hroster]
  rfl

/-- The walk goes on from a valid head entry. -/
theorem State.WalksTo.valid (h : t.WalksTo u) (hstep : s.Unqueues e g m t) (hs : s.Sound n)
    (hv : s.validMember e = some (g, m)) (hemq : s.emq = e :: rest) (ht : t.emq = rest) : s.WalksTo u where
  record k y hy := by
    obtain ⟨hg, -⟩ := hs.valid (hemq ▸ List.mem_cons_self) hv
    by_cases hk : k = e.slot
    · subst hk
      obtain rfl : y = g := Option.some.inj (hy.symm.trans hg)
      rw [h.record _ _ hstep.gather?, hstep.walkedRecord_self hs hv hemq ht]
    · have hring := hstep.rewaitedAt hs hv hemq ht k
      rw [decide_eq_false (Ne.symm hk), Bool.false_and, if_neg Bool.false_ne_true, List.nil_append] at hring
      rw [h.record k y ((State.gather?_congr (hstep.others k hk)).trans hy), State.walkedRecord, State.walkedRecord, hring,
        hstep.profileOf, hstep.timebase]
  pressure p :=
    ⟨(h.pressure p).1.trans (hstep.pressure p).1, (h.pressure p).2.trans (hstep.pressure p).2⟩
  queue p c := by
    rw [h.queue, hstep.queue, hstep.requeuedAt hs hv hemq ht, List.append_assoc]

/-- The taking of an entry does not read the entries behind it. -/
theorem State.Unqueues.withEmq (h : s.Unqueues e g m t) (q : List Emission) : s.Unqueues e g m { t with emq := q } :=
  ⟨h.record, h.others, h.pressure, h.queue, h.profiles, h.timebase⟩

/-- The ports whose passes are called for, from a valid head entry on (R144). -/
theorem State.Unqueues.called (h : s.Unqueues e g m t) (hs : s.Sound n) (hv : s.validMember e = some (g, m))
    (hemq : s.emq = e :: rest) {called : List Nat} (p : Nat) :
    (p ∈ e.port :: called ∨ ∃ x ∈ rest, x.port = p ∧ (t.validMember x).isSome = true) ↔
      p ∈ called ∨ ∃ x ∈ e :: rest, x.port = p ∧ (s.validMember x).isSome = true := by
  have he : e ∈ s.emq := hemq ▸ List.mem_cons_self
  have hsome : ∀ x ∈ rest, _ := fun x hx =>
    h.validMember_isSome hs he hv (hs.work.emissions x (hemq ▸ List.mem_cons_of_mem e hx)).2.1
  constructor
  · rintro (hp | ⟨x, hx, hxp, hvx⟩)
    · rcases List.mem_cons.1 hp with rfl | hp
      · exact .inr ⟨e, List.mem_cons_self, rfl, by rw [hv]; rfl⟩
      · exact .inl hp
    · exact .inr ⟨x, List.mem_cons_of_mem e hx, hxp, ((hsome x hx).1 hvx).1⟩
  · rintro (hp | ⟨x, hx, rfl, hvx⟩)
    · exact .inl (List.mem_cons_of_mem _ hp)
    · by_cases hport : x.port = e.port
      · exact .inl (hport ▸ List.mem_cons_self)
      · rcases List.mem_cons.1 hx with rfl | hx
        · exact absurd rfl hport
        · refine .inr ⟨x, hx, rfl, (hsome x hx).2 ⟨hvx, fun hsame => hport ?_⟩⟩
          obtain ⟨⟨y, z⟩, hyz⟩ := Option.isSome_iff_exists.1 hvx
          obtain ⟨hy, -, -, hyport, -⟩ := State.validMember_iff.1 hyz
          obtain ⟨hg, -, -, hgport, -⟩ := State.validMember_iff.1 hv
          rw [hsame.1, hg] at hy
          rw [← hyport, ← hgport, Option.some.inj hy]

/-- The walk of the Emission Queue of a sound state (R28). -/
theorem State.Sound.walkOf :
    ∀ (q : List Emission) (s : State) (called : List Nat), s.Sound n → s.emq = q →
      s.WalksTo (s.walkOf called q).1 ∧
      ∀ p, p ∈ (s.walkOf called q).2 ↔ p ∈ called ∨ ∃ e ∈ q, e.port = p ∧ (s.validMember e).isSome = true := by
  intro q
  induction q with
  | nil => exact fun s called h hemq => ⟨h.walksTo_nil hemq, fun p => by simp [State.walkOf]⟩
  | cons e rest ih =>
    intro s called h hemq
    have he : e ∈ s.emq := hemq ▸ List.mem_cons_self
    obtain ⟨hwalk, hcalled⟩ := ih _ (Machine.walkEntry (s, called) e).2 (h.walkEntry (ends := false) hemq called).sound rfl
    rw [State.walkOf_cons s called e rest rest]
    cases hv : s.validMember e with
    | none =>
      have hstale : Machine.walkEntry (s, called) e = (s, called) := by simp only [Machine.walkEntry, hv]
      rw [hstale] at hwalk hcalled ⊢
      refine ⟨hwalk.stale hemq hv, fun p => (hcalled p).trans ?_⟩
      simp [hv]
      rfl
    | some gm =>
      obtain ⟨g, m⟩ := gm
      obtain ⟨hstep, hports⟩ := h.walkEntry_unqueues he hv called
      have hrest := hstep.withEmq rest
      refine ⟨hwalk.valid hrest h hv hemq rfl, fun p => (hcalled p).trans ?_⟩
      rw [hports]
      exact hrest.called h hv hemq p

/-! What the walk leaves in every state. -/

/-- A slot keeps its generation while its record does not end (R44). -/
theorem Slot.Lives.generation {x y : Slot} (h : Slot.Lives false x y) : y.generation = x.generation := by
  cases h with
  | vacant => rfl
  | stands => rfl
  | freed => contradiction

theorem walkEntry_frame (s : State) (called : List Nat) (e : Emission) :
    ∃ slots ports, (Machine.walkEntry (s, called) e).1 = { s with slots := slots, ports := ports } := by
  cases hv : s.validMember e with
  | none => exact ⟨s.slots, s.ports, by simp only [Machine.walkEntry, hv]⟩
  | some gm =>
    obtain ⟨g, m⟩ := gm
    let g' := (g.setMember (m.unqueued (s.profileOf e.port) s.timebase)).reevaluate (s.profileOf e.port) m.entry
    obtain ⟨-, -, -, -, hframe, -⟩ := State.putGather_cases s e.slot g g' (Gather.reevaluate_port _ _ _)
    refine ⟨(s.putGather e.slot g g').slots, ((s.putGather e.slot g g').giveBack e.port e.cells).ports, ?_⟩
    simp only [Machine.walkEntry, hv]
    exact congrArg (fun u : State => { u with ports := ((s.putGather e.slot g g').giveBack e.port e.cells).ports }) hframe

theorem State.walkOf_frame (s : State) (called : List Nat) (q : List Emission) :
    (s.walkOf called q).1 =
      { s with slots := (s.walkOf called q).1.slots, ports := (s.walkOf called q).1.ports, emq := [] } := by
  induction q generalizing s called with
  | nil => rfl
  | cons e q ih =>
    obtain ⟨slots, ports, hstep⟩ := walkEntry_frame s called e
    have hrest := ih (Machine.walkEntry (s, called) e).1 (Machine.walkEntry (s, called) e).2
    rw [hstep] at hrest
    rw [State.walkOf_cons s called e q s.emq, hstep]
    exact hrest

/-- What a link reset leaves, whatever the state: all but the FIFOs, the credit and the next choice, and what the walk and
the serving of the ports reach (R27, R28). -/
theorem State.linkReset_frame (s : State) : s.linkReset = { s with
    queryFifo := []
    answerFifo := []
    credit := 0
    nextTx := .answer
    slots := s.linkReset.slots
    ports := s.linkReset.ports
    emq := s.linkReset.emq
    pointer := s.linkReset.pointer
    meters := s.linkReset.meters
    attn := s.linkReset.attn } := by
  have hserve : (s.walk.1.serveAll s.walk.2).apartFromDraws = s.apartFromDraws := by
    have hwalk : s.walk.1.apartFromDraws = s.apartFromDraws :=
      (congrArg State.apartFromDraws (State.walkOf_frame s [] s.emq)).trans rfl
    rw [State.serveAll_apart, hwalk]
  exact congrArg (fun u : State => { u with
    queryFifo := []
    answerFifo := []
    credit := 0
    nextTx := .answer
    slots := s.linkReset.slots
    ports := s.linkReset.ports
    emq := s.linkReset.emq
    pointer := s.linkReset.pointer
    meters := s.linkReset.meters
    attn := s.linkReset.attn }) hserve

/-- The next state of a link reset by its signal or by loss of framing (R26, R27). -/
theorem exec_reset_link {c : Instr} (hc : c = .linkReset ∨ c = .lossOfFraming) (h : s.link = .up) :
    exec c s = .next { s.linkReset with link := if c = .linkReset then .up else .resetting } := by
  rcases hc with rfl | rfl
  · rw [exec_linkReset h, if_pos rfl]
    have hlink : s.linkReset.link = .up := (congrArg State.link s.linkReset_frame).trans h
    rw [← hlink]
  · rw [exec_lossOfFraming h, if_neg nofun]

end

/-- Settles O16: the walk by induction on the Emission Queue, a valid head entry after another; the serving of the ports
reaches records, ports, Emission Queue, pointer, meters and attention bits alone. -/
theorem linkResetEffects : Obligations.LinkResetEffects := by
  unfold Obligations.LinkResetEffects
  refine ⟨fun s c h hc => ⟨_, exec_reset_link hc h, ?_, ?_⟩, fun s c hs h hc => ?_⟩
  · show (_ ||| AttnSource.linkReset.bit).getLsbD 1 = true
    rw [BitVec.getLsbD_or]
    exact Bool.or_true _
  · rw [s.linkReset_frame]
  · obtain ⟨hwalk, hcalled⟩ := hs.sound.walkOf s.emq s [] rfl
    have hleads : s.Leads false 64 s.walk.1 := State.Sound.walkAll s.emq s [] hs.sound rfl
    refine ⟨_, s.walk.1, s.walk.2, exec_reset_link hc h, State.walkOf_frame s [] s.emq,
      fun k => (hleads.lives k).generation, fun k => hleads.vacant, hwalk.record, hwalk.pressure, hwalk.queue, hleads.work.draws,
      fun p => (hcalled p).trans (or_iff_right List.not_mem_nil), rfl⟩

end Sys2Proof.Machine

/-! The classification of an arrival: the exempt windows (R32, R33), the Gather Index (R35, R37), and the join of an unknown
token or its refusal (R75, R76). -/

namespace Sys2Proof.Machine

section
variable {s : State} {q : List Word} {p k : Nat} {t : Tag} {g : Gather}

/-! ## The exempt windows -/

theorem Window.matches_iff (x : Window) (p : Nat) (token : Token) : x.matches p token = true ↔
    x.enabled = true ∧ (x.scopeAny = true ∨ x.scopePort.toNat = p) ∧ token &&& x.mask = x.base &&& x.mask := by
  simp [Window.matches, and_assoc]

/-- The window of an arrival is the lowest-numbered one that matches (R32). -/
theorem State.matchingWindow_some {token : Token} {i : Nat} (hi : i < 8) (hmatch : (s.window i).matches p token = true)
    (hlower : ∀ j, j < i → ¬ (s.window j).matches p token = true) : s.matchingWindow p token = some i :=
  List.find?_range_eq_some.2 ⟨hmatch, List.mem_range.2 hi, fun j hj => by simpa using hlower j hj⟩

/-! ## The Gather Index -/

/-- In a state whose records are lawful a key is found at the slot of the one record that has it (R35, R37). -/
theorem State.lookupGather_eq_some (hc : s.Canonical) (hl : s.RecordsLawful) :
    s.lookupGather p t = some (k, g) ↔ s.gather? k = some g ∧ g.port = p ∧ g.tag = t := by
  refine ⟨State.lookupGather_some, fun ⟨hg, hp, ht⟩ => ?_⟩
  cases hfound : s.lookupGather p t with
  | none => exact absurd ⟨hp, ht⟩ (State.no_key_of_lookup hfound k g hg)
  | some found =>
    obtain ⟨j, x⟩ := found
    obtain ⟨hx, hxp, hxt⟩ := State.lookupGather_some hfound
    obtain rfl := (State.keys_nodup_iff hc.slots).1 hl.keys j k x g hx hg (hxp.trans hp.symm) (hxt.trans ht.symm)
    rw [Option.some.inj (hx.symm.trans hg)]

theorem State.lookupGather_eq_none :
    s.lookupGather p t = none ↔ ∀ k g, s.gather? k = some g → ¬(g.port = p ∧ g.tag = t) := by
  refine ⟨State.no_key_of_lookup, fun hnone => ?_⟩
  cases hfound : s.lookupGather p t with
  | none => rfl
  | some found =>
    obtain ⟨hg, hkey⟩ := State.lookupGather_some hfound
    exact absurd hkey (hnone _ _ hg)

end

/-- Settles O30: the lowest-numbered match decides, and the arrival is answered from the window alone. -/
theorem exemptArrivalPassesUncharged : Obligations.ExemptArrivalPassesUncharged := by
  intro s q i matching h hk ha hi hmatch hlower
  have hw : s.popQuery.matchingWindow (portOf q) (tokenOf q) = some i :=
    State.matchingWindow_some hi ((Window.matches_iff _ _ _).2 hmatch) fun j hj hj' =>
      hlower j hj ((Window.matches_iff _ _ _).1 hj')
  rw [exec_arrive_accepts h hk ha, State.classify, hw]
  simp only [State.arriveExempt, State.answerVerdict, hk]
  rfl

/-- Settles O22: a lookup finds a record that has the key, and two records never have the same key. -/
theorem gatherIndexIsExact : Obligations.GatherIndexIsExact := fun _ _ _ hc hl =>
  ⟨fun _ _ => State.lookupGather_eq_some hc hl, State.lookupGather_eq_none⟩

section
variable {s : State} {q : List Word} {k : Nat} {g : Gather}

/-! ## The join of an unknown token -/

/-- An arrival outside every window, for a record in ACTIVE, goes to the record's roster (R30). -/
theorem exec_arrive_active (h : s.MayTake q) (hk : kindOf q = 5#4) (ha : s.Accepts q)
    (hw : s.matchingWindow (portOf q) (tokenOf q) = none) (hl : s.lookupGather (portOf q) (tagOf q) = some (k, g))
    (hs : g.stage = .active) : exec .arriveQuery s = .next (s.popQuery.arriveRoster q k g) := by
  have hw' : s.popQuery.matchingWindow (portOf q) (tokenOf q) = none := hw
  rw [exec_arrive_accepts h hk ha, State.classify, hw']
  simp only [State.popQuery_lookupGather, hl, hs]

/-- A member at the tail of a roster is found by a token that no member before it has. -/
theorem Gather.byToken_append {g' : Gather} {m : Member} (hnone : g.byToken m.token = none)
    (hroster : g'.roster = g.roster ++ [m]) : g'.byToken m.token = some m := by
  unfold Gather.byToken at hnone ⊢
  rw [hroster, List.find?_append, hnone]
  simp

/-- A join takes the head of the free list and puts the member at the tail of the roster; the arrival is then that
member's (R70, R71, R75). -/
theorem State.arriveRoster_joins {e : Nat} {rest : List Nat} (hs : g.stage = .active)
    (hnone : g.byToken (tokenOf q) = none) (hlen : g.roster.length < 256) (hfree : freeEntries s.free = e :: rest)
    (hroster : ∀ m ∈ g.roster, m.entry ≠ e) (hring : e ∉ g.ring) :
    let m : Member := { Member.taken e (tokenOf q) false none g.allowance with
      phase := if 0 < g.allowance then .opening else .waiting }
    let g' := { g with roster := g.roster ++ [m], ring := if g.allowance = 0 then g.ring ++ [e] else g.ring }
    ∃ free, freeEntries free = rest ∧ s.arriveRoster q k g =
      (({ s with free := free, attn := s.attnAfterTakes 1 false } : State).putGather k g g').arriveMember q k g' m
        (appends g g') := by
  intro m g'
  rcases State.take_cases s with ⟨hempty, -⟩ | ⟨e', rest', f, hfree', hf, htake⟩
  · exact absurd (hfree.symm.trans hempty) nofun
  · obtain ⟨rfl, rfl⟩ := List.cons.inj (hfree'.symm.trans hfree)
    have hfound : g'.byToken (tokenOf q) = some m := Gather.byToken_append (m := m) hnone rfl
    have hattn : s.attnAfterTakes 1 false =
        if rest'.length < s.poolLowMark then s.attn ||| AttnSource.poolLow.bit else s.attn := by
      simp [State.attnAfterTakes, freeCount_eq_length, hfree, AttnSource.bit]
    refine ⟨f, hf, ?_⟩
    simp only [State.arriveRoster, hnone, Config.rosterLimit, hlen, if_true, htake,
      Gather.addMember_eq _ e' (tokenOf q) false none g hs hroster hring, hattn]
    rw [hfound]

/-! ## The refusal of an unknown token -/

/-- Without room on the roster or in the pool the arrival is not joined; an empty free list makes a refused take (R71,
R76, log 13). -/
theorem State.arriveRoster_refuses (hnone : g.byToken (tokenOf q) = none)
    (hroom : 256 ≤ g.roster.length ∨ freeEntries s.free = []) : s.arriveRoster q k g =
      State.arriveUnjoined q k g { s with attn := s.attnAfterTakes 0 (decide (freeEntries s.free = [])) } := by
  have hrefuse : freeEntries s.free = [] → s.refuseTake =
      { s with attn := s.attnAfterTakes 0 (decide (freeEntries s.free = [])) } := fun hempty => by
    simp [State.refuseTake, State.raiseIf, State.attnAfterTakes, hempty, AttnSource.bit]
  simp only [State.arriveRoster, hnone]
  by_cases hlen : g.roster.length < Config.rosterLimit
  · have hempty := hroom.resolve_left (Nat.not_le.2 hlen)
    have htake : s.take = (none, s.refuseTake) := by simp [State.take, takeFree_none _ hempty]
    rw [if_pos hlen, htake, hrefuse hempty]
  · have hcount : freeCount s.free = 0 ↔ freeEntries s.free = [] := by
      rw [freeCount_eq_length, List.length_eq_zero_iff]
    rw [if_neg hlen]
    by_cases hempty : freeEntries s.free = []
    · rw [if_pos (hcount.2 hempty), hrefuse hempty]
    · rw [if_neg (mt hcount.1 hempty)]
      simp [State.attnAfterTakes, hempty]

/-- An arrival that is not joined re-arms the idle deadline of its record and is answered as a stray (R39, R61, R76). -/
theorem State.arriveUnjoined_eq (s : State) (q : List Word) (k : Nat) (g : Gather) : s.arriveUnjoined q k g =
    (s.setGather k { g with
      idle := if (s.profileOf g.port).idleTime = 0#16 then none
        else some (s.timebase + BitVec.ofNat 32 (s.profileOf g.port).idleTime.toNat) }).answerTable q
      ((s.profileOf (portOf q)).stray.get (s.port (portOf q)).mode) .stray 0 := by
  rw [State.arriveUnjoined, Gather.rearmIdle, armUnlessZero_toNat]
  rfl

end

/-- Settles O33: a token on no member of the record's roster joins it where both the roster and the pool have room, and is
refused otherwise. -/
theorem arrivalOfUnknownToken : Obligations.ArrivalOfUnknownToken := by
  intro s q k g h hk ha hw hl hs hnone p pf taken
  obtain ⟨-, hport, -⟩ := State.lookupGather_some hl
  rw [exec_arrive_active h hk ha hw hl hs]
  refine ⟨fun e rest hlen hfree hroster hring => ?_, fun hroom => ?_⟩
  · obtain ⟨free, hrest, heq⟩ :=
      State.arriveRoster_joins (s := s.popQuery) (k := k) hs hnone hlen hfree hroster hring
    exact ⟨free, hrest, congrArg Host.Outcome.next heq⟩
  · rw [State.arriveRoster_refuses (s := s.popQuery) hnone hroom, State.arriveUnjoined_eq, hport]
    simp only [State.answerTable, State.answerVerdict, Verdict.event_eq, hk]
    rfl

end Sys2Proof.Machine

/-! The writes of the exempt windows and of the meters through TABLE_SELECT: what the written fields hold (R31, R34, R166,
R170, R175). -/

namespace Sys2Proof.Machine

/-! ## The fields of the words -/

theorem field_eq_shift (w : Word) (lo width : Nat) : field w lo width = (w >>> lo).setWidth width := by
  ext i hi
  simp [field]

theorem field_zero (w : Word) (width : Nat) : field w 0 width = w.setWidth width := by rw [field_eq_shift]; rfl

/-- Each of the sixteen meter events has its code (R175 note 4). -/
theorem MeterEvent.code_ofCode (c : BitVec 4) : (MeterEvent.ofCode c).code = c := by decide +revert

theorem EnableSource.code_ofCode (c : BitVec 2) : (EnableSource.ofCode c).code = c := by decide +revert

theorem DisableSource.code_ofCode (c : BitVec 2) : (DisableSource.ofCode c).code = c := by decide +revert

/-- A reload control of 3 is stored as NEVER (R175 note 5). -/
theorem ReloadControl.code_ofCode (c : BitVec 2) : (ReloadControl.ofCode c).code = if c = 3#2 then 0#2 else c := by
  decide +revert

/-- A load of the low word writes the bits 31:0 and leaves the others (R170). -/
theorem loadPart_low (v : BitVec 40) (w : Word) :
    (loadPart v false w).setWidth 32 = w ∧ loadPart v false w >>> 32 = v >>> 32 := by
  constructor <;> ext i hi <;> simp [loadPart] <;> grind

/-- A load of the high word writes the bits 39:32 and leaves the others (R170). -/
theorem loadPart_high (v : BitVec 40) (w : Word) :
    (loadPart v true w >>> 32).setWidth 8 = w.setWidth 8 ∧ (loadPart v true w).setWidth 32 = v.setWidth 32 := by
  constructor <;> ext i hi <;> simp [loadPart, field] <;> grind

/-! ## The writes -/

section
variable {s : State} {i w : Nat}

theorem exec_exemptWrite (h : s.select.target = .exempt i w) (v : Word) :
    exec (.exemptWrite v) s = .next
      { s with
        select := { s.select with word := s.select.word + 1#8 }
        windows := Table.set Window.reset s.windows i ((s.window i).store w v) } := by
  simp only [exec, execExemptWrite, h]
  rfl

theorem exec_meterConfigWrite (h : s.select.target = .meter i 0) (v : Word) :
    exec (.meterConfigWrite v) s = .next (s.advance.setMeter i ((s.meter i).configure v)) := by
  simp only [exec, execMeterConfigWrite, h]

/-- METER word 1 is the low word of the count, METER word 2 the high one (R170). -/
theorem exec_meterCountWrite {high : Bool} (h : s.select.target = .meter i (if high then 2 else 1)) (v : Word) :
    exec (.meterCountWrite v) s = .next (s.advance.setMeter i ((s.meter i).load high v)) := by
  cases high <;> simp only [exec, execMeterCountWrite, h, if_true, Bool.false_eq_true, if_false]

theorem exec_meterFlagClear (h : s.select.target = .meter i 5) {v : Word} (hv : v.getLsbD 0 = true) :
    exec (.meterFlagClear v) s = .next (s.advance.setMeter i { s.meter i with overflowed := false }) := by
  simp only [exec, execMeterFlagClear, h, bit, hv, Bool.not_true, Bool.and_false]

end

/-- Settles O57: each write stores the fields of its word at the entry that TABLE_SELECT names. -/
theorem windowAndMeterWrites : Obligations.WindowAndMeterWrites := by
  intro s i v
  refine ⟨fun h => ?_, fun h => ?_, fun h => ?_, fun h => ⟨_, exec_meterConfigWrite h v, ?_⟩,
    fun h => ⟨_, exec_meterCountWrite (high := false) h v, ?_⟩,
    fun h => ⟨_, exec_meterCountWrite (high := true) h v, ?_⟩, fun h hv => exec_meterFlagClear h hv⟩
  · rw [exec_exemptWrite h, Window.store, field_zero]; rfl
  · rw [exec_exemptWrite h, Window.store, field_zero]
  · rw [exec_exemptWrite h, Window.store, field_zero]
  · simp only [← field_eq_shift]
    exact ⟨field_zero v 6, MeterEvent.code_ofCode _, EnableSource.code_ofCode _, DisableSource.code_ofCode _,
      ReloadControl.code_ofCode _, rfl, rfl, rfl, rfl, rfl⟩
  · obtain ⟨hcount, hcountHigh⟩ := loadPart_low (s.meter i).count v
    obtain ⟨hreload, hreloadHigh⟩ := loadPart_low (s.meter i).reload v
    exact ⟨hcount, hreload, hcountHigh, hreloadHigh, rfl⟩
  · obtain ⟨hcount, hcountLow⟩ := loadPart_high (s.meter i).count v
    obtain ⟨hreload, hreloadLow⟩ := loadPart_high (s.meter i).reload v
    exact ⟨hcount, hreload, hcountLow, hreloadLow, rfl⟩

end Sys2Proof.Machine

/-! What changes the settings and takes an attention bit back: the host's own writes, ENABLE_PORT and DISABLE_PORT alone
(R31, R149, R156, R176 to R178). Every operation of the part leaves the settings and at most latches attention bits. -/

namespace Sys2Proof.Machine

/-! ## The settings that a command may write -/

/-- The settings of port `p` after command `c` are those before it, but for what `c` writes (R156). -/
structure Port.SettingsBy (c : Instr) (p : Nat) (old new : Port) : Prop where
  profile : new.profile = old.profile ∨ ∃ v, c = .profileNumberWrite v
  adminFloor : new.adminFloor = old.adminFloor ∨ ∃ v, c = .adminFloorWrite v
  enabled : new.enabled = old.enabled ∨
    ∃ tag, c = .enablePort (BitVec.ofNat 8 p) tag ∨ c = .disablePort (BitVec.ofNat 8 p) tag

/-- `t` has the attention bits and the settings of `s`, but for what command `c` writes, and perhaps further attention bits
(R31, R149, R156, R176 to R178). -/
structure State.SettingsBy (c : Instr) (s t : State) : Prop where
  attn : ∀ i, s.attn.getLsbD i = true →
    t.attn.getLsbD i = true ∨ ∃ v : Word, c = .attnSummaryWrite v ∧ v.getLsbD i = true
  attnEnable : t.attnEnable = s.attnEnable ∨ ∃ v, c = .attnEnableWrite v
  poolLowMark : t.poolLowMark = s.poolLowMark ∨ ∃ v, c = .poolLowMarkWrite v
  windows : t.windows = s.windows ∨ ∃ v, c = .exemptWrite v
  profiles : t.profiles = s.profiles ∨ ∃ v, c = .profileWrite v
  port : ∀ p, (s.port p).SettingsBy c p (t.port p)

/-- The attention bits and what holds the settings. -/
def State.settings (s : State) : BitVec 7 × BitVec 7 × Nat × Table Window × Table Profile × Table Port :=
  (s.attn, s.attnEnable, s.poolLowMark, s.windows, s.profiles, s.ports)

section
variable {c : Instr} {p : Nat} {s t u : State} {pt x y : Port}

theorem Port.SettingsBy.refl : pt.SettingsBy c p pt := ⟨.inl rfl, .inl rfl, .inl rfl⟩

theorem Port.SettingsBy.trans (h : pt.SettingsBy c p x) (h' : x.SettingsBy c p y) : pt.SettingsBy c p y :=
  ⟨h'.profile.elim (fun e => e ▸ h.profile) .inr, h'.adminFloor.elim (fun e => e ▸ h.adminFloor) .inr,
    h'.enabled.elim (fun e => e ▸ h.enabled) .inr⟩

theorem State.SettingsBy.refl : s.SettingsBy c s :=
  ⟨fun _ => .inl, .inl rfl, .inl rfl, .inl rfl, .inl rfl, fun _ => .refl⟩

theorem State.SettingsBy.trans (h : s.SettingsBy c t) (h' : t.SettingsBy c u) : s.SettingsBy c u :=
  ⟨fun i hi => (h.attn i hi).elim (h'.attn i) .inr, h'.attnEnable.elim (fun e => e ▸ h.attnEnable) .inr,
    h'.poolLowMark.elim (fun e => e ▸ h.poolLowMark) .inr, h'.windows.elim (fun e => e ▸ h.windows) .inr,
    h'.profiles.elim (fun e => e ▸ h.profiles) .inr, fun p => (h.port p).trans (h'.port p)⟩

/-- A change of neither a setting nor an attention bit. -/
theorem State.SettingsBy.congr (h : s.SettingsBy c t) (hu : u.settings = t.settings) : s.SettingsBy c u := by
  simp only [State.settings, Prod.mk.injEq] at hu
  obtain ⟨hattn, henable, hmark, hwindows, hprofiles, hports⟩ := hu
  refine h.trans ⟨fun i hi => .inl (hattn ▸ hi), .inl henable, .inl hmark, .inl hwindows, .inl hprofiles, fun p => ?_⟩
  rw [State.port, State.port, hports]
  exact .refl

/-- Attention bits are latched. -/
theorem State.SettingsBy.latch (h : s.SettingsBy c t) (bits : BitVec 7) :
    s.SettingsBy c { t with attn := t.attn ||| bits } :=
  h.trans { State.SettingsBy.refl with
    attn := fun i hi => .inl (by rw [BitVec.getLsbD_or, hi, Bool.true_or]) }

theorem State.SettingsBy.ite {b : Prop} [Decidable b] (ht : b → s.SettingsBy c t) (hu : s.SettingsBy c u) :
    s.SettingsBy c (if b then t else u) := by
  split
  · rename_i hb; exact ht hb
  · exact hu

theorem State.SettingsBy.setPort (h : s.SettingsBy c t) {v : Port} (hv : (t.port p).SettingsBy c p v) :
    s.SettingsBy c (t.setPort p v) :=
  h.trans { State.SettingsBy.refl with
    port := fun q => by
      rw [State.port_setPort]
      split
      · rename_i hq; exact hq ▸ hv
      · exact .refl }

/-- A change of a port's pressure or draw state alone. -/
theorem State.SettingsBy.setState (h : s.SettingsBy c t) {v : Port} (hprofile : v.profile = (t.port p).profile)
    (hfloor : v.adminFloor = (t.port p).adminFloor) (henabled : v.enabled = (t.port p).enabled) :
    s.SettingsBy c (t.setPort p v) := h.setPort ⟨.inl hprofile, .inl hfloor, .inl henabled⟩

/-! ## Meters, attention, records and returns -/

theorem State.SettingsBy.offerTo (h : s.SettingsBy c t) (sel : BitVec 6) (ev : MeterEvent) (inc : Nat) :
    s.SettingsBy c (t.offerTo sel ev inc) := by
  rcases State.attn_offerTo t sel ev inc with hattn | hattn
  · exact h.congr (by simp [State.settings, hattn])
  · exact (h.latch AttnSource.meterOverflow.bit).congr (by simp [State.settings, hattn])

theorem State.SettingsBy.offer (h : s.SettingsBy c t) (p : Nat) (ev : MeterEvent) (inc : Nat) :
    s.SettingsBy c (t.offer p ev inc) := (h.offerTo _ ev inc).offerTo _ ev inc

theorem State.SettingsBy.mapMeters (h : s.SettingsBy c t) (f : Meter → Meter) : s.SettingsBy c (t.mapMeters f) :=
  h.congr rfl

theorem State.SettingsBy.raise (h : s.SettingsBy c t) (src : AttnSource) : s.SettingsBy c (t.raise src) := h.latch _

theorem State.SettingsBy.raiseIf (h : s.SettingsBy c t) (b : Bool) (src : AttnSource) :
    s.SettingsBy c (t.raiseIf b src) := by
  cases b
  · exact h
  · exact h.raise src

theorem State.SettingsBy.refuseTake (h : s.SettingsBy c t) : s.SettingsBy c t.refuseTake := h.raiseIf _ _

theorem State.SettingsBy.take (h : s.SettingsBy c t) : s.SettingsBy c t.take.2 := by
  unfold State.take
  split
  · exact h.refuseTake
  · rename_i rest _
    exact State.SettingsBy.raiseIf (t := { t with free := rest }) (h.congr rfl) _ _

theorem State.SettingsBy.setGather (h : s.SettingsBy c t) (k : Nat) (g : Gather) : s.SettingsBy c (t.setGather k g) :=
  h.congr rfl

theorem State.SettingsBy.freeSlot (h : s.SettingsBy c t) (k : Nat) (g : Gather) : s.SettingsBy c (t.freeSlot k g) :=
  h.congr rfl

theorem State.SettingsBy.giveBack (h : s.SettingsBy c t) (p cells : Nat) : s.SettingsBy c (t.giveBack p cells) :=
  h.setState rfl rfl rfl

theorem State.SettingsBy.setQueue (h : s.SettingsBy c t) (p cls : Nat) (q : List Nat) :
    s.SettingsBy c (t.setPort p ((t.port p).setQueue cls q)) := h.setState rfl rfl rfl

theorem State.SettingsBy.putGather (h : s.SettingsBy c t) (k : Nat) (old new : Gather) :
    s.SettingsBy c (t.putGather k old new) := by
  have hdequeue : s.SettingsBy c
      (if old.queued && !keepsPlace old new then t.dequeue old.port old.cls k else t) :=
    .ite (fun _ => h.setQueue _ _ _) h
  unfold State.putGather
  exact State.SettingsBy.setGather (.ite (fun _ => hdequeue.setQueue _ _ _) hdequeue) k new

theorem State.SettingsBy.leaveActive (h : s.SettingsBy c t) (k : Nat) (g : Gather) :
    s.SettingsBy c (t.leaveActive k g) := (h.putGather k g g.left).giveBack _ _

theorem State.SettingsBy.endGather (h : s.SettingsBy c t) (k : Nat) (g : Gather) (o : Ending) :
    s.SettingsBy c (t.endGather k g o).1 :=
  have hleft := h.leaveActive k g
  State.SettingsBy.offer (.ite (fun _ => hleft.freeSlot k g) (hleft.setGather k _)) _ _ _

theorem State.SettingsBy.retire (h : s.SettingsBy c t) (k : Nat) : s.SettingsBy c (t.retire k).1 := by
  unfold State.retire
  split
  · exact h
  · split
    · exact (h.leaveActive k _).freeSlot k _
    · exact h.freeSlot k _

theorem State.SettingsBy.retireAll (h : s.SettingsBy c t) (ks : List Nat) : s.SettingsBy c (t.retireAll ks).1 := by
  rw [State.retireAll_eq]
  refine List.foldlRecOn (motive := fun a : State × List Nat => s.SettingsBy c a.1) ks _ h fun a ha k _ => ?_
  unfold retireStep
  split
  · exact ha
  · exact ha.retire k

/-! ## Passes and the link -/

theorem State.SettingsBy.issue (h : s.SettingsBy c t) (p : Nat) (d : Draw) : s.SettingsBy c (t.issue p d) := by
  have hport : s.SettingsBy c (t.setPort p ((t.port p).issued d)) := h.setState rfl rfl rfl
  have hemq : s.SettingsBy c
      { (t.setPort p ((t.port p).issued d)).setGather d.slot (d.gather.issue d.cells d.member) with
        emq := t.emq ++ [t.emissionOf p d] } := hport.congr rfl
  exact (hemq.offer _ _ _).offer _ _ _

theorem State.SettingsBy.drawPass (h : s.SettingsBy c t) (p : Nat) : s.SettingsBy c (t.drawPass p) :=
  State.drawPass_keeps p (s.SettingsBy c) (fun _ _ hu _ _ _ => hu.issue p _)
    (fun _ _ hu _ _ _ => hu.setState rfl rfl rfl) t h

theorem State.SettingsBy.passIf (h : s.SettingsBy c t) (call : Bool) (p : Nat) : s.SettingsBy c (t.passIf call p) :=
  .ite (fun _ => h.drawPass p) h

theorem State.SettingsBy.passes (h : s.SettingsBy c t) (called : List Nat) : s.SettingsBy c (t.passes called) :=
  State.passes_keeps called (s.SettingsBy c) (fun _ p _ _ hu => hu.drawPass p) t h

theorem State.SettingsBy.handTo (h : s.SettingsBy c t) (p : Nat) : s.SettingsBy c (t.handTo p) :=
  State.SettingsBy.setState (t := { t with pointer := p }) (h.congr rfl) rfl rfl rfl

theorem State.SettingsBy.handPlace (h : s.SettingsBy c t) (p : Nat) (call : Bool) : s.SettingsBy c (t.handPlace p call) :=
  State.handPlace_keeps p call (s.SettingsBy c) (fun _ q _ _ hu => hu.handTo q) (fun _ q hu => hu.drawPass q) t h

theorem State.SettingsBy.serveAll (h : s.SettingsBy c t) (called : List Nat) : s.SettingsBy c (t.serveAll called) :=
  State.serveAll_keeps called (s.SettingsBy c) (fun _ q _ _ hu => hu.handTo q) (fun _ q _ hu => hu.drawPass q) t h

theorem State.SettingsBy.depart (h : s.SettingsBy c t) (e : Emission) (g : Gather) (m : Member) :
    s.SettingsBy c (t.depart e g m) := by
  have hsent : s.SettingsBy c { t with
      emq := t.emq.tail, credit := t.credit - 1, lklTx := e.words, nextTx := .answer } := h.congr rfl
  exact (hsent.putGather e.slot g _).handPlace _ _

theorem State.SettingsBy.walkEntry {a : State × List Nat} (h : s.SettingsBy c a.1) (e : Emission) :
    s.SettingsBy c (Machine.walkEntry a e).1 := by
  unfold Machine.walkEntry
  split
  · exact h
  · exact (h.putGather e.slot _ _).giveBack _ _

theorem State.SettingsBy.linkReset (h : s.SettingsBy c t) : s.SettingsBy c t.linkReset := by
  have hfold : s.SettingsBy c (t.emq.foldl Machine.walkEntry (t, [])).1 :=
    List.foldlRecOn (motive := fun a : State × List Nat => s.SettingsBy c a.1) t.emq _ h fun a ha e _ => ha.walkEntry e
  have hwalk : s.SettingsBy c t.walk.1 := hfold.congr rfl
  exact State.SettingsBy.raise (t := { t.walk.1.serveAll t.walk.2 with
    queryFifo := [], answerFifo := [], credit := 0, nextTx := .answer }) ((hwalk.serveAll t.walk.2).congr rfl) _

/-! ## Queries -/

theorem State.SettingsBy.appendAnswer (h : s.SettingsBy c t) (a : Answer) : s.SettingsBy c (t.appendAnswer a) := h.congr rfl

theorem State.SettingsBy.fault (h : s.SettingsBy c t) (q : List Word) (status : Status) (parameter : BitVec 16) :
    s.SettingsBy c (t.fault q status parameter) := by
  have hcount : s.SettingsBy c (t.countFault q status) := by
    unfold State.countFault
    split
    · exact h.offerTo _ _ _
    · exact h.offerTo _ _ _
    · exact h.offer _ _ _
  exact hcount.congr rfl

theorem State.SettingsBy.addListed {a : Adding} (h : s.SettingsBy c a.state) (k : Nat) (x : Token × Nat) :
    s.SettingsBy c (Machine.addListed k a x).state := by
  have htake := h.take
  unfold Machine.addListed
  split
  · exact h
  · split
    · exact h
    · split
      · split
        · rename_i hu; rw [hu] at htake; exact htake
        · rename_i hu; rw [hu] at htake; exact State.SettingsBy.putGather htake k _ _
      · split
        · exact h.refuseTake
        · exact h

theorem State.SettingsBy.addAll (h : s.SettingsBy c t) (k : Nat) (listed : List (Token × Nat)) :
    s.SettingsBy c (t.addAll k listed).state :=
  List.foldlRecOn (motive := fun a : Adding => s.SettingsBy c a.state) listed _ h fun _ ha x _ => ha.addListed k x

theorem State.SettingsBy.openFresh (h : s.SettingsBy c t) (q : List Word) : s.SettingsBy c (t.openFresh q) := by
  unfold State.openFresh
  split
  · exact ((h.offer _ _ _).raise _).fault _ _ _
  · exact ((((h.setGather _ _).addAll _ _).offer _ _ _).passIf _ _).appendAnswer _

theorem State.SettingsBy.openGather (h : s.SettingsBy c t) (q : List Word) : s.SettingsBy c (t.openGather q) := by
  unfold State.openGather
  split
  · exact h.openFresh q
  · split
    · exact h.fault _ _ _
    · exact (h.freeSlot _ _).openFresh q

theorem State.SettingsBy.extendGather (h : s.SettingsBy c t) (q : List Word) : s.SettingsBy c (t.extendGather q) := by
  unfold State.extendGather
  split
  · exact h.fault _ _ _
  · split
    · exact h.fault _ _ _
    · exact (((h.setGather _ _).addAll _ _).passIf _ _).appendAnswer _

theorem State.SettingsBy.reclassGather (h : s.SettingsBy c t) (q : List Word) : s.SettingsBy c (t.reclassGather q) := by
  unfold State.reclassGather
  split
  · exact h.fault _ _ _
  · split
    · exact h.fault _ _ _
    · exact ((h.putGather _ _ _).passIf _ _).appendAnswer _

theorem State.SettingsBy.closeGather (h : s.SettingsBy c t) (q : List Word) : s.SettingsBy c (t.closeGather q) := by
  unfold State.closeGather
  split
  · exact h.fault _ _ _
  · split
    · exact h.appendAnswer _
    · exact ((h.endGather _ _ _).passIf _ _).appendAnswer _

theorem State.SettingsBy.answerTable (h : s.SettingsBy c t) (q : List Word) (v : Verdict) (b : Basis) (parameter : Nat) :
    s.SettingsBy c (t.answerTable q v b parameter) := ((h.offer _ _ _).offer _ _ _).appendAnswer _

theorem State.SettingsBy.arriveMember (h : s.SettingsBy c t) (q : List Word) (k : Nat) (g : Gather) (m : Member)
    (call : Bool) : s.SettingsBy c (t.arriveMember q k g m call) := by
  unfold State.arriveMember
  refine State.SettingsBy.appendAnswer (State.SettingsBy.passIf (State.SettingsBy.offer ?_ _ _ _) _ _) _
  split
  · exact ((h.putGather _ _ _).giveBack _ _).endGather _ _ _
  · exact (h.putGather _ _ _).giveBack _ _

theorem State.SettingsBy.arriveRoster (h : s.SettingsBy c t) (q : List Word) (k : Nat) (g : Gather) :
    s.SettingsBy c (t.arriveRoster q k g) := by
  have htake := h.take
  have hunjoined : ∀ u, s.SettingsBy c u → s.SettingsBy c (u.arriveUnjoined q k g) :=
    fun _ hu => (hu.setGather k _).answerTable _ _ _ _
  unfold State.arriveRoster
  split
  · exact h.arriveMember q k g _ _
  · split
    · split
      · rename_i hu; rw [hu] at htake; exact hunjoined _ htake
      · rename_i hu
        rw [hu] at htake
        dsimp only
        split
        · exact htake
        · exact (State.SettingsBy.putGather htake k g _).arriveMember q k _ _ _
    · exact hunjoined _ (.ite (fun _ => h.refuseTake) h)

theorem State.SettingsBy.classify (h : s.SettingsBy c t) (q : List Word) : s.SettingsBy c (t.classify q) := by
  unfold State.classify
  split
  · exact (h.offer _ _ _).appendAnswer _
  · split
    · exact h.answerTable _ _ _ _
    · split
      · exact h.answerTable _ _ _ _
      · exact h.arriveRoster q _ _

theorem State.SettingsBy.takeQuery (s : State) (f : BitVec 4 → Bool) {owner : List Word → State → State}
    (how : ∀ q u, s.SettingsBy c u → s.SettingsBy c (owner q u)) : s.SettingsBy c (s.takeQuery f owner) := by
  have hpop : s.SettingsBy c s.popQuery := State.SettingsBy.refl.congr rfl
  rcases State.takeQuery_cases s f owner with heq | ⟨-, q, -, ⟨status, parameter, heq⟩ | ⟨-, heq⟩⟩
  · rw [heq]; exact .refl
  · rw [heq]; exact hpop.fault _ _ _
  · rw [heq]; exact how q _ hpop

/-! ## The ports' commands and the expiries -/

theorem Port.bring_settings (pf : Profile) (f : Int) (pt : Port) : pt.SettingsBy c p (pt.bring pf f) := by
  rw [(Port.bring_spec pf f pt).2.2]
  exact ⟨.inl rfl, .inl rfl, .inl rfl⟩

theorem Port.climb_settings (pf : Profile) (now : Time) (depth : Nat) (pt : Port) :
    pt.SettingsBy c p (pt.climb pf now depth) := by
  unfold Port.climb
  split
  · exact ⟨.inl rfl, .inl rfl, .inl rfl⟩
  · split <;> exact ⟨.inl rfl, .inl rfl, .inl rfl⟩

/-- A report moves a port's pressure state alone (R99). -/
theorem Port.report_settings (pf : Profile) (now : Time) (depth : Nat) (pt : Port) :
    pt.SettingsBy c p (pt.report pf now depth) := by
  have hstep := ((pt.freshen pf now).climb_settings (c := c) (p := p) pf now depth).trans
    (Port.bring_settings pf (((pt.freshen pf now).climb pf now depth).stepped pf) _)
  exact ⟨hstep.profile, hstep.adminFloor, hstep.enabled⟩

theorem State.SettingsBy.applyPort (h : s.SettingsBy c t) (old : Port) {new : Port} (hnew : (t.port p).SettingsBy c p new) :
    s.SettingsBy c (t.applyPort p old new) := by
  have hset := h.setPort hnew
  have henter : s.SettingsBy c (if entersSurge old new then (t.setPort p new).surgeEntry p else t.setPort p new) :=
    .ite (fun _ => ((hset.mapMeters _).offer _ _ _).raise _) hset
  unfold State.applyPort
  exact State.SettingsBy.passIf (.ite (fun _ => henter.mapMeters _) henter) _ _

/-- ENABLE_PORT writes the enable state of its port (R159). -/
theorem State.SettingsBy.enableAt (h : s.SettingsBy c t) (hc : ∃ tag, c = .enablePort (BitVec.ofNat 8 p) tag) :
    s.SettingsBy c (t.enableAt p) := by
  have hset : s.SettingsBy c (t.setPort p ((t.port p).enable (t.profileOf p) t.timebase)) :=
    h.setPort ⟨.inl rfl, .inl rfl, .inr (hc.imp fun _ => .inl)⟩
  unfold State.enableAt
  dsimp only
  split
  · exact h
  · exact .ite (fun _ => hset.mapMeters _) hset

/-- DISABLE_PORT writes the enable state of its port (R160). -/
theorem State.SettingsBy.disableAt (h : s.SettingsBy c t) (hc : ∃ tag, c = .disablePort (BitVec.ofNat 8 p) tag) :
    s.SettingsBy c (t.disableAt p) :=
  .ite (fun _ => ((h.retireAll _).passes _).setPort ⟨.inl rfl, .inl rfl, .inr (hc.imp fun _ => .inr)⟩) h

theorem State.SettingsBy.finishCommand (h : s.SettingsBy c t) (code port : BitVec 8) (tag : Tag) (r : Result) :
    s.SettingsBy c (t.finishCommand code port tag r) := h.congr rfl

theorem State.SettingsBy.reclaim (h : s.SettingsBy c t) (k : Nat) (g : Gather) (m : Member) :
    s.SettingsBy c (t.reclaim k g m) := by
  unfold State.reclaim
  refine State.SettingsBy.passIf ?_ _ _
  generalize (if decide ((t.profileOf g.port).lapses ≤ m.reclaimed.lapses) = true then g.lapseMember m.reclaimed
    else (g.setMember m.reclaimed).reevaluate (t.profileOf g.port) m.entry) = g'
  have hput := ((h.putGather k g g').giveBack g.port m.drawOut).offer g.port .drawsReclaimed 1
  split
  · exact hput.endGather _ _ _
  · exact hput

theorem State.SettingsBy.expireGather (h : s.SettingsBy c t) (k : Nat) (g : Gather) (o : Ending) :
    s.SettingsBy c (t.expireGather k g o) := (h.endGather k g o).passIf _ _

theorem State.SettingsBy.clampPorts (h : s.SettingsBy c t) (number : Nat) : s.SettingsBy c (t.clampPorts number) := by
  have hfold : s.SettingsBy c ((List.range Config.ports).foldl (clampPort number) (t, [])).1 := by
    refine List.foldlRecOn (motive := fun a : State × List Nat => s.SettingsBy c a.1) _ _ h fun a ha p _ => ?_
    unfold clampPort
    dsimp only
    split
    · exact ha.setPort (Port.bring_settings _ _ _)
    · exact ha
  exact hfold.passes _

/-! ## The table writes and the register writes -/

/-- A profile's words are written by PROFILE_WRITE, which moves no port's settings (R154). -/
theorem State.SettingsBy.profileWrite (s : State) (value : Word) :
    ∃ t, exec (.profileWrite value) s = .next t ∧ s.SettingsBy (.profileWrite value) t := by
  refine ⟨_, rfl, ?_⟩
  split
  · rename_i number w _
    have hwrite : s.SettingsBy (.profileWrite value)
        (s.setProfile number ((s.profileAt number).store w value)).advance :=
      { State.SettingsBy.refl with profiles := .inr ⟨value, rfl⟩ }
    exact .ite (fun _ => hwrite.clampPorts number) hwrite
  · exact .refl

/-- PROFILE_NUMBER_WRITE writes the profile number of a port (R157). -/
theorem Port.setProfile_settings (value : Word) (number : BitVec 3) (pf : Profile) (pt : Port) :
    pt.SettingsBy (.profileNumberWrite value) p (pt.setProfile number pf) := by
  have hnumber : pt.SettingsBy (.profileNumberWrite value) p { pt with profile := number } :=
    ⟨.inr ⟨value, rfl⟩, .inl rfl, .inl rfl⟩
  unfold Port.setProfile
  dsimp only
  split
  · exact hnumber.trans (Port.bring_settings _ _ _)
  · exact hnumber

/-- ADMIN_FLOOR_WRITE writes the admin floor of a port (R115). -/
theorem Port.setFloor_settings (value : Word) (pf : Profile) (pt : Port) :
    pt.SettingsBy (.adminFloorWrite value) p (Port.refloor pf { pt with adminFloor := field value 0 3 }) :=
  ⟨.inl rfl, .inr ⟨value, rfl⟩, .inl rfl⟩

/-- A write of a port's settings and the pass of its notice (R115, R157). -/
theorem State.SettingsBy.writePort (h : s.SettingsBy c t) {v : Port} (hv : (t.port p).SettingsBy c p v) (call : Bool) :
    s.SettingsBy c ((t.advance.setPort p v).passIf call p) :=
  have hadvance : s.SettingsBy c t.advance := h.congr rfl
  (hadvance.setPort hv).passIf _ _

/-- A one clears its source's bit, and a zero leaves it (R176). -/
theorem State.SettingsBy.clearAttn (s : State) (value : Word) :
    s.SettingsBy (.attnSummaryWrite value) { s with attn := s.attn &&& ~~~field value 0 7 } :=
  { State.SettingsBy.refl with
    attn := fun i hi => by
      have hlt : i < 7 := BitVec.lt_of_getLsbD hi
      have hbit : (s.attn &&& ~~~field value 0 7).getLsbD i = !value.getLsbD i := by
        simp [field, hi, hlt]
      cases hv : value.getLsbD i
      · exact .inl (by rw [hbit, hv]; rfl)
      · exact .inr ⟨value, rfl, hv⟩ }

/-! ## The commands -/

/-- Every command but part reset leaves the settings that it does not write, and every attention bit that it does not
clear. -/
theorem exec_settingsBy (c : Instr) (hreset : c ≠ .partReset) (s : State) :
    ∃ t, exec c s = .next t ∧ s.SettingsBy c t := by
  have hself : s.SettingsBy c s := .refl
  cases c with
  | partReset => exact absurd rfl hreset
  | lossOfFraming => exact ⟨_, rfl, .ite (fun _ => hself.linkReset.congr rfl) hself⟩
  | framingAcquired => exact ⟨_, rfl, hself.congr rfl⟩
  | queryArrival words =>
    exact ⟨_, rfl, .ite (fun _ => .ite (fun _ => hself.congr rfl) (hself.raise _)) hself⟩
  | undefinedSignal words => exact ⟨s, rfl, hself⟩
  | openQuery => exact ⟨_, rfl, .takeQuery s _ fun q _ hu => hu.openGather q⟩
  | extendQuery => exact ⟨_, rfl, .takeQuery s _ fun q _ hu => hu.extendGather q⟩
  | reclassQuery => exact ⟨_, rfl, .takeQuery s _ fun q _ hu => hu.reclassGather q⟩
  | closeQuery => exact ⟨_, rfl, .takeQuery s _ fun q _ hu => hu.closeGather q⟩
  | arriveQuery => exact ⟨_, rfl, .takeQuery s _ fun q _ hu => hu.classify q⟩
  | undefinedQuery => exact ⟨_, rfl, .takeQuery s _ fun _ _ hu => hu⟩
  | answer =>
    refine ⟨_, rfl, ?_⟩
    split
    · exact hself
    · exact .ite (fun _ => hself.congr rfl) hself
  | drawEmission =>
    refine ⟨_, rfl, ?_⟩
    split
    · exact hself
    · split
      · exact hself
      · exact .ite (fun _ => hself.depart _ _ _) hself
  | staleDiscard =>
    refine ⟨_, rfl, ?_⟩
    split
    · exact hself
    · split
      · exact State.SettingsBy.handPlace (t := { s with emq := s.emq.tail }) (hself.congr rfl) _ _
      · exact hself
  | emitCredit count => exact ⟨_, rfl, .ite (fun _ => hself.congr rfl) hself⟩
  | linkReset => exact ⟨_, rfl, .ite (fun _ => hself.linkReset) hself⟩
  | report port depth =>
    exact ⟨_, rfl, .ite (fun _ => hself.applyPort _ (Port.report_settings _ _ _ _)) hself⟩
  | dwellExpiry port =>
    exact ⟨_, rfl, .ite (fun _ => hself.applyPort _ ⟨.inl rfl, .inl rfl, .inl rfl⟩) hself⟩
  | staleExpiry port =>
    have hstale : s.SettingsBy (.staleExpiry port) (s.setPort port ((s.port port).goStale s.timebase)) :=
      hself.setState rfl rfl rfl
    exact ⟨_, rfl, .ite (fun _ => hstale.raise _) hself⟩
  | drawDeadlineExpiry slot position =>
    refine ⟨_, rfl, ?_⟩
    split
    · exact hself
    · split
      · exact hself
      · exact .ite (fun _ => hself.reclaim _ _ _) hself
  | idleExpiry slot =>
    refine ⟨_, rfl, ?_⟩
    split
    · exact hself
    · exact .ite (fun _ => hself.expireGather _ _ _) hself
  | lifetimeExpiry slot =>
    refine ⟨_, rfl, ?_⟩
    split
    · exact hself
    · exact .ite (fun _ => hself.expireGather _ _ _) hself
  | lingerExpiry slot =>
    refine ⟨_, rfl, ?_⟩
    split
    · exact hself
    · exact .ite (fun _ => hself.freeSlot _ _) hself
  | enablePort port tag =>
    refine ⟨_, rfl, .ite (fun _ => ?_) (hself.finishCommand _ _ _ _)⟩
    exact (hself.enableAt ⟨tag, by simp⟩).finishCommand _ _ _ _
  | disablePort port tag =>
    refine ⟨_, rfl, .ite (fun _ => ?_) (hself.finishCommand _ _ _ _)⟩
    exact (hself.disableAt ⟨tag, by simp⟩).finishCommand _ _ _ _
  | retireGather port tag =>
    refine ⟨_, rfl, .ite (fun _ => ?_) (hself.finishCommand _ _ _ _)⟩
    split
    · exact hself.finishCommand _ _ _ _
    · exact ((hself.retire _).passIf _ _).finishCommand _ _ _ _
  | purgeAll port tag => exact ⟨_, rfl, ((hself.retireAll _).passes _).finishCommand _ _ _ _⟩
  | metersStart port tag => exact ⟨_, rfl, (hself.mapMeters _).finishCommand _ _ _ _⟩
  | metersStop port tag => exact ⟨_, rfl, (hself.mapMeters _).finishCommand _ _ _ _⟩
  | badCommand code port tag => exact ⟨_, rfl, .ite (fun _ => hself.finishCommand _ _ _ _) hself⟩
  | profileWrite value => exact State.SettingsBy.profileWrite s value
  | profileNumberWrite value =>
    refine ⟨_, rfl, ?_⟩
    split
    · exact hself.writePort (Port.setProfile_settings value _ _ _) _
    · exact hself
  | adminFloorWrite value =>
    refine ⟨_, rfl, ?_⟩
    split
    · exact hself.writePort (Port.setFloor_settings value _ _) _
    · exact hself
  | portStatusRead =>
    refine ⟨_, rfl, ?_⟩
    split
    · exact State.SettingsBy.setState (t := s.readWindow) (hself.congr rfl) rfl rfl rfl
    · exact hself
  | exemptWrite value =>
    refine ⟨_, rfl, ?_⟩
    split
    · exact { hself with windows := .inr ⟨value, rfl⟩ }
    · exact hself
  | meterConfigWrite value =>
    refine ⟨_, rfl, ?_⟩
    split
    · exact hself.congr rfl
    · exact hself
  | meterCountWrite value =>
    refine ⟨_, rfl, ?_⟩
    split
    · exact hself.congr rfl
    · exact hself.congr rfl
    · exact hself
  | meterFlagClear value =>
    refine ⟨_, rfl, ?_⟩
    split
    · exact hself.congr rfl
    · exact hself
  | tableWindowRead =>
    refine ⟨_, rfl, ?_⟩
    split
    · exact hself
    · exact hself.congr rfl
  | attnSummaryWrite value => exact ⟨_, rfl, .clearAttn s value⟩
  | attnEnableWrite value => exact ⟨_, rfl, { hself with attnEnable := .inr ⟨value, rfl⟩ }⟩
  | poolLowMarkWrite value => exact ⟨_, rfl, { hself with poolLowMark := .inr ⟨value, rfl⟩ }⟩
  | registerWrite index lanes value =>
    exact ⟨_, rfl, .ite (fun _ => .ite (fun _ => hself.congr rfl) (.ite (fun _ => hself.congr rfl) hself)) hself⟩
  | timebaseAdvance => exact ⟨_, rfl, .ite (fun _ => hself) (hself.congr rfl)⟩

end

/-- Settles O11: each command leaves the settings and the attention bits that it does not write. -/
theorem settingsChangeByTheirWritesAlone : Obligations.SettingsChangeByTheirWritesAlone := by
  intro c s t ht hreset
  obtain ⟨u, hu, h⟩ := exec_settingsBy c hreset s
  obtain rfl := Host.Outcome.next.inj (ht.symm.trans hu)
  exact ⟨fun i _ hset hclear => (h.attn i hset).resolve_left (by simp [hclear]), h.attnEnable.resolve_left,
    h.poolLowMark.resolve_left, h.windows.resolve_left, h.profiles.resolve_left,
    fun p => (h.port p).profile.resolve_left, fun p => (h.port p).adminFloor.resolve_left,
    fun p => (h.port p).enabled.resolve_left⟩

end Sys2Proof.Machine

/-! The elementary changes of the stored state: what every command is made of, told once, so that a law of the storage or of
the rosters is proved by one case per change (R43, R69, R74, R84, log 11, log 12). -/

namespace Sys2Proof.Machine

/-! ## The changes of a roster that adds no member -/

/-- The member `m'` is `m` later: its entry, its token, its announced flag and E stand, open-left does not grow, and its
passed and trims, where they are within their limits, do not fall and stay within them (R72, R84). -/
structure Member.GoesOn (m m' : Member) : Prop where
  entry : m'.entry = m.entry
  token : m'.token = m.token
  announced : m'.announced = m.announced
  expected : m'.expected = m.expected
  openLeft : m'.openLeft ≤ m.openLeft
  passed : m.passed ≤ 16777215 → m.passed ≤ m'.passed ∧ m'.passed ≤ 16777215
  trims : m.trims ≤ 255 → m.trims ≤ m'.trims ∧ m'.trims ≤ 255

/-- Each member of `g` goes on in `g'` at its position (R74). -/
def Gather.Keeps (g g' : Gather) : Prop :=
  ∀ (i : Nat) (m : Member), g.roster[i]? = some m → ∃ m', g'.roster[i]? = some m' ∧ m.GoesOn m'

/-- `g'` is `g` with its members changed in place: the entries stand, and where no entry is held twice each member goes
on. -/
structure Gather.Changes (g g' : Gather) : Prop where
  entries : g'.entries = g.entries
  keeps : g.entries.Nodup → g.Keeps g'

section
variable {g g' g'' : Gather} {m m' m'' : Member}

theorem Member.GoesOn.refl (m : Member) : m.GoesOn m :=
  ⟨rfl, rfl, rfl, rfl, Nat.le_refl _, fun h => ⟨Nat.le_refl _, h⟩, fun h => ⟨Nat.le_refl _, h⟩⟩

theorem Member.GoesOn.trans (h : m.GoesOn m') (h' : m'.GoesOn m'') : m.GoesOn m'' where
  entry := h'.entry.trans h.entry
  token := h'.token.trans h.token
  announced := h'.announced.trans h.announced
  expected := h'.expected.trans h.expected
  openLeft := Nat.le_trans h'.openLeft h.openLeft
  passed hm := ⟨Nat.le_trans (h.passed hm).1 (h'.passed (h.passed hm).2).1, (h'.passed (h.passed hm).2).2⟩
  trims hm := ⟨Nat.le_trans (h.trims hm).1 (h'.trims (h.trims hm).2).1, (h'.trims (h.trims hm).2).2⟩

theorem trimsUp_range {n : Nat} (h : n ≤ 255) : n ≤ trimsUp n ∧ trimsUp n ≤ 255 := by
  unfold trimsUp Config.trimsLimit
  omega

theorem Member.charge_goesOn (pf : Profile) (now : Time) (c : Nat) (m : Member) : m.GoesOn (m.charge pf now c) where
  entry := rfl
  token := rfl
  announced := rfl
  expected := rfl
  openLeft := Nat.sub_le _ _
  passed h := by
    show m.passed ≤ min (m.passed + c) 16777215 ∧ min (m.passed + c) 16777215 ≤ 16777215
    omega
  trims h := ⟨Nat.le_refl _, h⟩

theorem Member.overLimit_goesOn (m : Member) : m.GoesOn m.overLimit :=
  { Member.GoesOn.refl m with openLeft := Nat.zero_le _, trims := trimsUp_range }

theorem Member.finish_goesOn (m : Member) : m.GoesOn m.finish := { Member.GoesOn.refl m with openLeft := Nat.zero_le _ }

theorem Member.revived_goesOn (m : Member) : m.GoesOn m.revived := { Member.GoesOn.refl m with trims := trimsUp_range }

theorem Member.left_goesOn (m : Member) : m.GoesOn m.left := { Member.GoesOn.refl m with }

theorem Gather.Keeps.refl (g : Gather) : g.Keeps g := fun _ m hm => ⟨m, hm, .refl m⟩

theorem Gather.Keeps.trans (h : g.Keeps g') (h' : g'.Keeps g'') : g.Keeps g'' := fun i m hm => by
  obtain ⟨m', hm', hgo⟩ := h i m hm
  obtain ⟨m'', hm'', hgo'⟩ := h' i m' hm'
  exact ⟨m'', hm'', hgo.trans hgo'⟩

/-- A change of the record that leaves its roster. -/
theorem Gather.Changes.of_roster (h : g'.roster = g.roster) : g.Changes g' where
  entries := congrArg (List.map Member.entry) h
  keeps _ := fun i m hm => ⟨m, by rw [h]; exact hm, .refl m⟩

theorem Gather.Changes.refl (g : Gather) : g.Changes g := .of_roster rfl

theorem Gather.Changes.trans (h : g.Changes g') (h' : g'.Changes g'') : g.Changes g'' where
  entries := h'.entries.trans h.entries
  keeps hn := (h.keeps hn).trans (h'.keeps (by rw [h.entries]; exact hn))

/-- Each member changed in place by `f`. -/
theorem Gather.Changes.of_map {f : Member → Member} (hroster : g'.roster = g.roster.map f)
    (hentry : ∀ m, (f m).entry = m.entry) (hf : g.entries.Nodup → ∀ m ∈ g.roster, m.GoesOn (f m)) : g.Changes g' where
  entries := by
    rw [Gather.entries, hroster, List.map_map]
    exact List.map_congr_left fun m _ => hentry m
  keeps hn := fun i m hm =>
    ⟨f m, by rw [hroster, List.getElem?_map, hm]; rfl, hf hn m (List.mem_of_getElem? hm)⟩

/-- Only the member of the replaced entry changes, where no entry is held twice. -/
theorem Gather.setMember_changes (hm : m ∈ g.roster) (h : m.GoesOn m') : g.Changes (g.setMember m') := by
  refine .of_map (f := fun x => if x.entry = m'.entry then m' else x) rfl (fun x => ?_) fun hn x hx => ?_
  · split
    · rename_i he; exact he.symm
    · rfl
  · split
    · rename_i he
      have hfind := Gather.member?_of_mem hn hx
      rw [he, h.entry, Gather.member?_of_mem hn hm] at hfind
      exact Option.some.inj hfind ▸ h
    · exact .refl x

theorem Gather.reevaluate_changes (pf : Profile) (e : Nat) (g : Gather) : g.Changes (g.reevaluate pf e) := by
  cases hm : g.member? e with
  | none => simp only [Gather.reevaluate, hm]; exact .refl g
  | some m =>
    have hset : ∀ ph, g.Changes (g.setMember { m with phase := ph }) := fun ph =>
      Gather.setMember_changes (Gather.mem_of_member? hm).1 { Member.GoesOn.refl m with }
    simp only [Gather.reevaluate, hm]
    split
    · exact .refl g
    · split
      · exact (hset .waiting).trans (.of_roster rfl)
      · exact hset _

/-- A member changed and then re-evaluated (R87). -/
theorem Gather.setMember_reevaluate_changes (pf : Profile) (e : Nat) (hm : m ∈ g.roster) (h : m.GoesOn m') :
    g.Changes ((g.setMember m').reevaluate pf e) := (Gather.setMember_changes hm h).trans (Gather.reevaluate_changes ..)

theorem Gather.finishMember_changes (hm : m ∈ g.roster) (h : m.GoesOn m') : g.Changes (g.finishMember m') :=
  (Gather.setMember_changes hm (h.trans m'.finish_goesOn)).trans (.of_roster rfl)

theorem Gather.addMember_port (g : Gather) (pf : Profile) (e : Nat) (token : Token) (announced : Bool)
    (expected : Option Nat) : (g.addMember pf e token announced expected).port = g.port := by
  unfold Gather.addMember
  dsimp only
  split
  · exact Gather.reevaluate_port ..
  · rfl

theorem Gather.lapseMember_changes (hm : m ∈ g.roster) : g.Changes (g.lapseMember m.reclaimed) :=
  (Gather.setMember_changes (m' := { m.reclaimed with
    phase := .lapsed, openLeft := 0, drawQueued := 0, drawOut := 0, drawDeadline := none }) hm
    { Member.GoesOn.refl m with openLeft := Nat.zero_le _ }).trans (.of_roster rfl)

theorem Gather.left_changes (g : Gather) : g.Changes g.left :=
  .of_map (f := Member.left) rfl (fun _ => rfl) fun _ m _ => m.left_goesOn

theorem Gather.rearmIdle_changes (pf : Profile) (now : Time) (g : Gather) : g.Changes (g.rearmIdle pf now) :=
  .of_roster rfl

theorem Gather.reclass_changes (v : Nat) (g : Gather) : g.Changes (g.reclass v) := by
  unfold Gather.reclass
  split <;> exact .of_roster rfl

theorem Gather.handle_changes (pf : Profile) (now : Time) (mode : Mode) (c : Nat) (last : Bool) (hm : m ∈ g.roster) :
    g.Changes (g.handle pf now mode c last m).gather := by
  have hcharge : g.Changes (g.chargeOrTrim pf now mode c last m).gather := by
    unfold Gather.chargeOrTrim
    split
    · dsimp only
      split
      · exact Gather.finishMember_changes hm (m.charge_goesOn pf now c)
      · exact Gather.setMember_reevaluate_changes _ _ hm (m.charge_goesOn pf now c)
    · exact Gather.setMember_reevaluate_changes _ _ hm m.overLimit_goesOn
  have hfinished : g.Changes (g.handleFinished mode c m).gather := by
    unfold Gather.handleFinished
    split
    · exact .refl g
    · exact Gather.setMember_changes hm { Member.GoesOn.refl m with trims := trimsUp_range }
  have hlapsed : g.Changes (g.handleLapsed pf mode c last m).gather := by
    unfold Gather.handleLapsed
    split
    · split
      · exact Gather.finishMember_changes hm (.refl m)
      · exact .refl g
    · exact Gather.setMember_reevaluate_changes _ _ hm m.revived_goesOn
  unfold Gather.handle
  cases m.phase with
  | opening => exact hcharge
  | waiting => exact hcharge
  | drawn => exact hcharge
  | finished => exact hfinished
  | lapsed => exact hlapsed

end

/-! ## The elementary changes -/

/-- The tables and the free list: what the canonical form and the records speak of. -/
def State.stored (s : State) :
    Table Window × Table Slot × List Run × Table Port × Table Profile × Table Meter :=
  (s.windows, s.slots, s.free, s.ports, s.profiles, s.meters)

/-- The class queues of `v` are those of `pt`, at most one of them replaced. -/
def Port.Requeues (pt v : Port) : Prop := v.queues = pt.queues ∨ ∃ c q, v.queues = Table.set [] pt.queues c q

/-- `t` comes from `s` by elementary changes, none of which makes a FREE slot hold a record: a change outside the storage,
a new window, profile, meter or port, a take from the pool, a change of a record's members in place, the join of a member
with the entry it takes, and the freeing of a record. -/
inductive State.Evolves (s : State) : State → Prop
  | refl : s.Evolves s
  | congr {t u : State} : s.Evolves t → u.stored = t.stored → s.Evolves u
  | window {t : State} (i : Nat) (v : Window) : s.Evolves t →
      s.Evolves { t with windows := Table.set Window.reset t.windows i v }
  | profile {t : State} (i : Nat) (v : Profile) : s.Evolves t → s.Evolves (t.setProfile i v)
  | meter {t : State} (i : Nat) (v : Meter) : s.Evolves t → s.Evolves (t.setMeter i v)
  | port {t : State} (p : Nat) (v : Port) : s.Evolves t → (t.port p).Requeues v → s.Evolves (t.setPort p v)
  | taken {t : State} (e : Nat) (f : List Run) : s.Evolves t → takeFree t.free = some (e, f) →
      s.Evolves { t with free := f }
  | alter {t : State} (k : Nat) (g g' : Gather) : s.Evolves t → t.gather? k = some g → g.Changes g' →
      s.Evolves (t.setGather k g')
  | join {t : State} (k : Nat) (g : Gather) (e : Nat) (f : List Run) (pf : Profile) (token : Token) (announced : Bool)
      (expected : Option Nat) : s.Evolves t → t.gather? k = some g → takeFree t.free = some (e, f) →
      s.Evolves (State.setGather k (g.addMember pf e token announced expected) { t with free := f })
  | free {t : State} (k : Nat) (g g' : Gather) : s.Evolves t → t.gather? k = some g → g'.entries = g.entries →
      s.Evolves (t.freeSlot k g')

section
variable {k p : Nat} {s t u : State} {g g' : Gather} {m : Member}

theorem State.Evolves.ite {c : Prop} [Decidable c] (ht : c → s.Evolves t) (hu : s.Evolves u) :
    s.Evolves (if c then t else u) := by
  split
  · rename_i hc; exact ht hc
  · exact hu

/-- A port's change that leaves its class queues. -/
theorem State.Evolves.setPort (h : s.Evolves t) {v : Port} (hv : v.queues = (t.port p).queues) :
    s.Evolves (t.setPort p v) := .port p v h (.inl hv)

theorem State.Evolves.setQueue (h : s.Evolves t) (p c : Nat) (q : List Nat) :
    s.Evolves (t.setPort p ((t.port p).setQueue c q)) := .port p _ h (.inr ⟨c, q, rfl⟩)

/-! ## Meters, attention, records and returns -/

theorem State.Evolves.mapMeters (h : s.Evolves t) (f : Meter → Meter) : s.Evolves (t.mapMeters f) :=
  List.foldlRecOn (motive := fun bank => s.Evolves { t with meters := bank }) (List.range Config.meters) _
    h fun bank hbank i _ => .meter i (f (Table.get Meter.reset bank i)) hbank

theorem State.Evolves.offerTo (h : s.Evolves t) (sel : BitVec 6) (ev : MeterEvent) (inc : Nat) :
    s.Evolves (t.offerTo sel ev inc) :=
  .congr (h.mapMeters fun m => if m.accepts sel ev then m.add inc else m) (by simp only [State.offerTo]; rfl)

theorem State.Evolves.offer (h : s.Evolves t) (p : Nat) (ev : MeterEvent) (inc : Nat) : s.Evolves (t.offer p ev inc) :=
  (h.offerTo _ ev inc).offerTo _ ev inc

theorem State.Evolves.raise (h : s.Evolves t) (src : AttnSource) : s.Evolves (t.raise src) := .congr h rfl

theorem State.Evolves.refuseTake (h : s.Evolves t) : s.Evolves t.refuseTake := .congr h rfl

theorem State.Evolves.giveBack (h : s.Evolves t) (p cells : Nat) : s.Evolves (t.giveBack p cells) := h.setPort rfl

/-- The record of a slot changes with its place on the class queues: a change of ports, then of the record. -/
theorem State.Evolves.putGather (h : s.Evolves t) (hg : t.gather? k = some g) (hc : g.Changes g') :
    s.Evolves (t.putGather k g g') := by
  have hdequeue : s.Evolves (if g.queued && !keepsPlace g g' then t.dequeue g.port g.cls k else t) :=
    .ite (fun _ => h.setQueue _ _ _) h
  have hrecord : ∀ c : Prop, [Decidable c] → (if c then t.dequeue g.port g.cls k else t).gather? k = some g := by
    intro c _
    split <;> exact hg
  unfold State.putGather
  dsimp only
  split
  · exact .alter k g g' (hdequeue.setQueue _ _ _) (hrecord _) hc
  · exact .alter k g g' hdequeue (hrecord _) hc

theorem State.gather?_leaveActive (s : State) (k : Nat) (g : Gather) : (s.leaveActive k g).gather? k = some g.left := by
  have hslot := (s.leaveActive_cases k g).1
  unfold State.gather?
  rw [hslot]

theorem State.Evolves.leaveActive (h : s.Evolves t) (hg : t.gather? k = some g) : s.Evolves (t.leaveActive k g) :=
  (h.putGather hg g.left_changes).giveBack _ _

theorem State.Evolves.endGather (h : s.Evolves t) (hg : t.gather? k = some g) (o : Ending) :
    s.Evolves (t.endGather k g o).1 := by
  have hleft := h.leaveActive hg
  have hrecord := t.gather?_leaveActive k g
  unfold State.endGather
  refine State.Evolves.offer (.ite (fun _ => ?_) ?_) _ _ _
  · exact .free k g.left g hleft hrecord g.left_changes.entries.symm
  · exact .alter k g.left _ hleft hrecord (.of_roster rfl)

theorem State.Evolves.retire (h : s.Evolves t) (k : Nat) : s.Evolves (t.retire k).1 := by
  unfold State.retire
  split
  · exact h
  · rename_i g hg
    split
    · exact .free k _ g (h.leaveActive hg) (t.gather?_leaveActive k g) g.left_changes.entries.symm
    · exact .free k g g h hg rfl

theorem State.Evolves.retireAll (h : s.Evolves t) (ks : List Nat) : s.Evolves (t.retireAll ks).1 := by
  rw [State.retireAll_eq]
  refine List.foldlRecOn (motive := fun a : State × List Nat => s.Evolves a.1) ks _ h fun a ha k _ => ?_
  unfold retireStep
  split
  · exact ha
  · exact ha.retire k

/-! ## Passes -/

/-- The record and the member of the draw at the head of a port are those of the draw's slot. -/
theorem State.headDraw_record {d : Draw} (h : s.headDraw p = some d) :
    s.gather? d.slot = some d.gather ∧ d.member ∈ d.gather.roster := by
  unfold State.headDraw at h
  split at h
  · cases h
  · split at h
    · cases h
    · split at h
      · cases h
      · rename_i hg
        split at h
        · cases h
        · split at h
          · cases h
          · rename_i hm
            cases h
            exact ⟨hg, (Gather.mem_of_member? hm).1⟩

theorem State.Evolves.issue (h : s.Evolves t) {d : Draw} (hd : t.headDraw p = some d) : s.Evolves (t.issue p d) := by
  obtain ⟨hg, hm⟩ := State.headDraw_record hd
  have hport : s.Evolves (t.setPort p ((t.port p).issued d)) := .port p _ h (.inr ⟨_, _, rfl⟩)
  have hissue : s.Evolves ((t.setPort p ((t.port p).issued d)).setGather d.slot (d.gather.issue d.cells d.member)) :=
    .alter d.slot d.gather _ hport hg
      ((Gather.setMember_changes (m' := d.member.issued d.cells) hm { Member.GoesOn.refl d.member with }).trans
        (.of_roster rfl))
  exact ((State.Evolves.congr (u := { (t.setPort p ((t.port p).issued d)).setGather d.slot
    (d.gather.issue d.cells d.member) with emq := t.emq ++ [t.emissionOf p d] }) hissue rfl).offer _ _ _).offer _ _ _

theorem State.Evolves.drawPass (h : s.Evolves t) (p : Nat) : s.Evolves (t.drawPass p) :=
  State.drawPass_keeps p s.Evolves (fun _ _ hu hd _ _ => hu.issue hd) (fun _ _ hu _ _ _ => hu.setPort rfl) t h

theorem State.Evolves.passIf (h : s.Evolves t) (call : Bool) (p : Nat) : s.Evolves (t.passIf call p) :=
  .ite (fun _ => h.drawPass p) h

theorem State.Evolves.passes (h : s.Evolves t) (called : List Nat) : s.Evolves (t.passes called) :=
  State.passes_keeps called s.Evolves (fun _ p _ _ hu => hu.drawPass p) t h

theorem State.Evolves.handTo (h : s.Evolves t) (p : Nat) : s.Evolves (t.handTo p) :=
  State.Evolves.setPort (t := { t with pointer := p }) (.congr h rfl) rfl

theorem State.Evolves.handPlace (h : s.Evolves t) (p : Nat) (call : Bool) : s.Evolves (t.handPlace p call) :=
  State.handPlace_keeps p call s.Evolves (fun _ q _ _ hu => hu.handTo q) (fun _ q hu => hu.drawPass q) t h

theorem State.Evolves.serveAll (h : s.Evolves t) (called : List Nat) : s.Evolves (t.serveAll called) :=
  State.serveAll_keeps called s.Evolves (fun _ q _ _ hu => hu.handTo q) (fun _ q _ hu => hu.drawPass q) t h

/-! ## The link -/

theorem State.Evolves.depart (h : s.Evolves t) {e : Emission} (hv : t.validMember e = some (g, m)) :
    s.Evolves (t.depart e g m) := by
  obtain ⟨hg, -, -, -, -, hm, -, -⟩ := State.validMember_iff.1 hv
  have hchange : g.Changes ((g.setMember (m.departed (t.profileOf e.port) t.timebase)).reevaluate
      (t.profileOf e.port) m.entry) :=
    Gather.setMember_reevaluate_changes _ _ (Gather.mem_of_member? hm).1 { Member.GoesOn.refl m with }
  exact (State.Evolves.putGather (t := { t with
    emq := t.emq.tail, credit := t.credit - 1, lklTx := e.words, nextTx := .answer }) (.congr h rfl) hg hchange).handPlace
    _ _

theorem State.Evolves.walkEntry {a : State × List Nat} (h : s.Evolves a.1) (e : Emission) :
    s.Evolves (Machine.walkEntry a e).1 := by
  unfold Machine.walkEntry
  split
  · exact h
  · rename_i g m hv
    obtain ⟨hg, -, -, -, -, hm, -, -⟩ := State.validMember_iff.1 hv
    have hchange : g.Changes ((g.setMember (m.unqueued (a.1.profileOf e.port) a.1.timebase)).reevaluate
        (a.1.profileOf e.port) m.entry) :=
      Gather.setMember_reevaluate_changes _ _ (Gather.mem_of_member? hm).1 { Member.GoesOn.refl m with }
    exact (h.putGather hg hchange).giveBack _ _

theorem State.Evolves.linkReset (h : s.Evolves t) : s.Evolves t.linkReset := by
  have hwalk : s.Evolves t.walk.1 := .congr (List.foldlRecOn (motive := fun a : State × List Nat => s.Evolves a.1)
    t.emq Machine.walkEntry h fun a ha e _ => ha.walkEntry e) rfl
  exact State.Evolves.raise (t := { t.walk.1.serveAll t.walk.2 with
    queryFifo := [], answerFifo := [], credit := 0, nextTx := .answer }) (.congr (hwalk.serveAll t.walk.2) rfl) _

/-! ## Queries -/

theorem State.Evolves.appendAnswer (h : s.Evolves t) (a : Answer) : s.Evolves (t.appendAnswer a) := .congr h rfl

theorem State.Evolves.fault (h : s.Evolves t) (q : List Word) (status : Status) (parameter : BitVec 16) :
    s.Evolves (t.fault q status parameter) := by
  have hcount : s.Evolves (t.countFault q status) := by
    unfold State.countFault
    split
    · exact h.offerTo _ _ _
    · exact h.offerTo _ _ _
    · exact h.offer _ _ _
  exact .congr hcount rfl

/-- A take and the record with the joined member, whatever place on the class queues the record then has. -/
theorem State.Evolves.joinTaken (h : s.Evolves t) (hg : t.gather? k = some g) {e : Nat} (hu : t.take = (some e, u))
    (pf : Profile) (token : Token) (announced : Bool) (expected : Option Nat) :
    s.Evolves (u.putGather k g (g.addMember pf e token announced expected)) := by
  unfold State.take at hu
  split at hu
  · cases hu
  · rename_i e' f htake
    cases hu
    have hjoin := State.Evolves.join k g e f pf token announced expected h hg htake
    have hraised : s.Evolves (State.setGather k (g.addMember pf e token announced expected)
        (State.raiseIf (decide (freeCount f < t.poolLowMark)) .poolLow { t with free := f })) := .congr hjoin rfl
    have hdequeue : s.Evolves (State.setGather k (g.addMember pf e token announced expected)
        (if g.queued && !keepsPlace g (g.addMember pf e token announced expected) then
          State.dequeue g.port g.cls k (State.raiseIf (decide (freeCount f < t.poolLowMark)) .poolLow { t with free := f })
        else State.raiseIf (decide (freeCount f < t.poolLowMark)) .poolLow { t with free := f })) := by
      split
      · exact .congr (hraised.setQueue g.port g.cls (((t.port g.port).queue g.cls).filter (· ≠ k))) rfl
      · exact hraised
    unfold State.putGather
    dsimp only
    split
    · exact .congr (hdequeue.setQueue _ _ _) rfl
    · exact hdequeue

theorem State.Evolves.take (h : s.Evolves t) : s.Evolves t.take.2 := by
  unfold State.take
  split
  · exact h.refuseTake
  · rename_i htake
    exact .congr (.taken _ _ h htake) rfl

theorem State.Evolves.addListed {a : Adding} (h : s.Evolves a.state) (k : Nat) (x : Token × Nat) :
    s.Evolves (Machine.addListed k a x).state := by
  have htake := h.take
  unfold Machine.addListed
  split
  · exact h
  · rename_i g hg
    split
    · exact h
    · split
      · split
        · rename_i hu; rw [hu] at htake; exact htake
        · rename_i hu; exact h.joinTaken hg hu _ _ _ _
      · split
        · exact h.refuseTake
        · exact h

theorem State.Evolves.addAll (h : s.Evolves t) (k : Nat) (listed : List (Token × Nat)) :
    s.Evolves (t.addAll k listed).state :=
  List.foldlRecOn (motive := fun a : Adding => s.Evolves a.state) listed _ h fun _ ha x _ => ha.addListed k x


/-- `t` comes from `s` by elementary changes, among them at most one that sets a record without members in a FREE slot: what
an OPEN does (R50). -/
def State.EvolvesOpening (s t : State) : Prop :=
  s.Evolves t ∨ ∃ (u : State) (k : Nat) (g : Gather), s.Evolves u ∧ u.gather? k = none ∧ g.roster = [] ∧
    (u.setGather k g).Evolves t

theorem State.Evolves.openFresh (h : s.Evolves t) (q : List Word) : s.EvolvesOpening (t.openFresh q) := by
  unfold State.openFresh
  split
  · exact .inl (((h.offer _ _ _).raise _).fault _ _ _)
  · rename_i k hk
    refine .inr ⟨t, k, t.newGather q, h, (State.lowestFree_some hk).2, rfl, ?_⟩
    exact (((State.Evolves.refl.addAll k (listedOf q)).offer _ _ _).passIf _ _).appendAnswer _

theorem State.Evolves.openGather (h : s.Evolves t) (q : List Word) : s.EvolvesOpening (t.openGather q) := by
  unfold State.openGather
  split
  · exact h.openFresh q
  · rename_i k g hl
    split
    · exact .inl (h.fault _ _ _)
    · exact (State.Evolves.free k g g h (State.lookupGather_some hl).1 rfl).openFresh q

theorem State.Evolves.extendGather (h : s.Evolves t) (q : List Word) : s.Evolves (t.extendGather q) := by
  unfold State.extendGather
  split
  · exact h.fault _ _ _
  · rename_i k g hl
    split
    · exact h.fault _ _ _
    · have hset : s.Evolves (t.setGather k ({ g with announced := extendedCount g.announced (announcedOf q) }.rearmIdle
          (t.profileOf g.port) t.timebase)) := .alter k g _ h (State.lookupGather_some hl).1 (.of_roster rfl)
      exact ((hset.addAll _ _).passIf _ _).appendAnswer _

theorem State.Evolves.reclassGather (h : s.Evolves t) (q : List Word) : s.Evolves (t.reclassGather q) := by
  unfold State.reclassGather
  split
  · exact h.fault _ _ _
  · rename_i k g hl
    split
    · exact h.fault _ _ _
    · exact ((h.putGather (State.lookupGather_some hl).1 ((g.reclass_changes _).trans
        (Gather.rearmIdle_changes ..))).passIf _ _).appendAnswer _

theorem State.Evolves.closeGather (h : s.Evolves t) (q : List Word) : s.Evolves (t.closeGather q) := by
  unfold State.closeGather
  split
  · exact h.fault _ _ _
  · rename_i k g hl
    split
    · exact h.appendAnswer _
    · exact ((h.endGather (State.lookupGather_some hl).1 _).passIf _ _).appendAnswer _

theorem State.Evolves.answerTable (h : s.Evolves t) (q : List Word) (v : Verdict) (b : Basis) (parameter : Nat) :
    s.Evolves (t.answerTable q v b parameter) := ((h.offer _ _ _).offer _ _ _).appendAnswer _

theorem State.Evolves.arriveMember (h : s.Evolves t) (hg : t.gather? k = some g) (hm : m ∈ g.roster) (q : List Word)
    (call : Bool) : s.Evolves (t.arriveMember q k g m call) := by
  have hchange : g.Changes ((g.handle (t.profileOf g.port) t.timebase (t.port g.port).mode (cellsOf (bytesOf q))
      (lastOf q) m).gather.rearmIdle (t.profileOf g.port) t.timebase) :=
    (Gather.handle_changes _ _ _ _ _ hm).trans (Gather.rearmIdle_changes ..)
  unfold State.arriveMember
  refine State.Evolves.appendAnswer (State.Evolves.passIf (State.Evolves.offer ?_ _ _ _) _ _) _
  have hput := (h.putGather hg hchange).giveBack g.port
    (g.handle (t.profileOf g.port) t.timebase (t.port g.port).mode (cellsOf (bytesOf q)) (lastOf q) m).returned
  split
  · refine hput.endGather ?_ _
    exact State.gather?_putGather t (by rw [Gather.handle_frame]; rfl)
  · exact hput

theorem State.Evolves.arriveUnjoined (h : s.Evolves t) (hg : t.gather? k = some g) (q : List Word) :
    s.Evolves (t.arriveUnjoined q k g) :=
  (State.Evolves.alter k g _ h hg (Gather.rearmIdle_changes ..)).answerTable _ _ _ _

theorem State.Evolves.arriveRoster (h : s.Evolves t) (hg : t.gather? k = some g) (q : List Word) :
    s.Evolves (t.arriveRoster q k g) := by
  have htake := h.take
  unfold State.arriveRoster
  split
  · rename_i m hm
    exact h.arriveMember hg (Gather.mem_of_byToken hm).1 q _
  · split
    · split
      · rename_i hu
        obtain ⟨-, hrefused⟩ | ⟨_, _, _, -, -, htaken⟩ := State.take_cases t
        · obtain rfl := (Prod.mk.inj (hu.symm.trans hrefused)).2
          exact h.refuseTake.arriveUnjoined hg q
        · cases hu.symm.trans htaken
      · rename_i e u hu
        have hjoin := h.joinTaken hg hu (u.profileOf g.port) (tokenOf q) false none
        rw [hu] at htake
        dsimp only
        split
        · exact htake
        · rename_i m hm
          exact hjoin.arriveMember (State.gather?_putGather u (Gather.addMember_port g ..)) (Gather.mem_of_byToken hm).1 q _
    · refine State.Evolves.arriveUnjoined (.ite (fun _ => h.refuseTake) h) ?_ q
      split <;> exact hg

theorem State.Evolves.classify (h : s.Evolves t) (q : List Word) : s.Evolves (t.classify q) := by
  unfold State.classify
  split
  · exact (h.offer _ _ _).appendAnswer _
  · split
    · exact h.answerTable _ _ _ _
    · rename_i k g hl
      split
      · exact h.answerTable _ _ _ _
      · exact h.arriveRoster (State.lookupGather_some hl).1 q

theorem State.Evolves.takeQuery (s : State) (f : BitVec 4 → Bool) {owner : List Word → State → State}
    (how : ∀ q u, s.Evolves u → s.Evolves (owner q u)) : s.Evolves (s.takeQuery f owner) := by
  have hpop : s.Evolves s.popQuery := .congr .refl rfl
  rcases State.takeQuery_cases s f owner with heq | ⟨-, q, -, ⟨status, parameter, heq⟩ | ⟨-, heq⟩⟩
  · rw [heq]; exact .refl
  · rw [heq]; exact hpop.fault _ _ _
  · rw [heq]; exact how q _ hpop

theorem State.evolvesOpening_takeOpen (s : State) (f : BitVec 4 → Bool) :
    s.EvolvesOpening (s.takeQuery f State.openGather) := by
  have hpop : s.Evolves s.popQuery := .congr .refl rfl
  rcases State.takeQuery_cases s f State.openGather with heq | ⟨-, q, -, ⟨status, parameter, heq⟩ | ⟨-, heq⟩⟩
  · rw [heq]; exact .inl .refl
  · rw [heq]; exact .inl (hpop.fault _ _ _)
  · rw [heq]; exact hpop.openGather q

/-! ## The ports' commands and the expiries -/

theorem Port.bring_queues (pf : Profile) (f : Int) (pt : Port) : (pt.bring pf f).queues = pt.queues := by
  unfold Port.bring
  split
  · rfl
  · split <;> rfl

theorem Port.setProfile_queues (n : BitVec 3) (pf : Profile) (pt : Port) : (pt.setProfile n pf).queues = pt.queues := by
  unfold Port.setProfile
  dsimp only
  split
  · exact Port.bring_queues ..
  · rfl

theorem State.Evolves.applyPort (h : s.Evolves t) (p : Nat) (old : Port) {new : Port}
    (hnew : new.queues = (t.port p).queues) : s.Evolves (t.applyPort p old new) := by
  have hset := h.setPort hnew
  have henter : s.Evolves (if entersSurge old new then (t.setPort p new).surgeEntry p else t.setPort p new) :=
    .ite (fun _ => ((hset.mapMeters _).offer _ _ _).raise _) hset
  unfold State.applyPort
  refine State.Evolves.passIf ?_ _ _
  split
  · exact henter.mapMeters _
  · exact henter

theorem State.Evolves.enableAt (h : s.Evolves t) (p : Nat) : s.Evolves (t.enableAt p) := by
  have hset : s.Evolves (t.setPort p ((t.port p).enable (t.profileOf p) t.timebase)) := h.setPort rfl
  unfold State.enableAt
  dsimp only
  split
  · exact h
  · exact .ite (fun _ => hset.mapMeters _) hset

theorem State.Evolves.disableAt (h : s.Evolves t) (p : Nat) : s.Evolves (t.disableAt p) := by
  unfold State.disableAt
  split
  · exact ((h.retireAll _).passes _).setPort rfl
  · exact h

theorem State.Evolves.advance (h : s.Evolves t) : s.Evolves t.advance := .congr h rfl

/-- A write of a port's settings and the pass of its notice (R115, R157). -/
theorem State.Evolves.writePort (h : s.Evolves t) {v : Port} (hv : v.queues = (t.port p).queues) (call : Bool) :
    s.Evolves ((t.advance.setPort p v).passIf call p) := (h.advance.setPort hv).passIf _ _

theorem State.Evolves.finishCommand (h : s.Evolves t) (code port : BitVec 8) (tag : Tag) (r : Result) :
    s.Evolves (t.finishCommand code port tag r) := .congr h rfl

theorem State.Evolves.reclaim (h : s.Evolves t) (hg : t.gather? k = some g) (hm : m ∈ g.roster) :
    s.Evolves (t.reclaim k g m) := by
  have hchange : ∀ c : Prop, [Decidable c] → g.Changes (if c then g.lapseMember m.reclaimed
      else (g.setMember m.reclaimed).reevaluate (t.profileOf g.port) m.entry) := by
    intro c _
    split
    · exact Gather.lapseMember_changes hm
    · exact Gather.setMember_reevaluate_changes _ _ hm { Member.GoesOn.refl m with }
  have hport : ∀ c : Prop, [Decidable c] → (if c then g.lapseMember m.reclaimed
      else (g.setMember m.reclaimed).reevaluate (t.profileOf g.port) m.entry).port = g.port := by
    intro c _
    split
    · rfl
    · rw [Gather.reevaluate_port, Gather.setMember_port]
  unfold State.reclaim
  refine State.Evolves.passIf ?_ _ _
  specialize hchange (decide ((t.profileOf g.port).lapses ≤ m.reclaimed.lapses) = true)
  specialize hport (decide ((t.profileOf g.port).lapses ≤ m.reclaimed.lapses) = true)
  generalize (if decide ((t.profileOf g.port).lapses ≤ m.reclaimed.lapses) = true then g.lapseMember m.reclaimed
    else (g.setMember m.reclaimed).reevaluate (t.profileOf g.port) m.entry) = g' at hchange hport ⊢
  have hput := ((h.putGather hg hchange).giveBack g.port m.drawOut).offer g.port .drawsReclaimed 1
  split
  · refine hput.endGather ?_ _
    unfold State.gather? State.slot
    rw [State.offer_slots]
    exact State.gather?_putGather t hport
  · exact hput

theorem State.Evolves.expireGather (h : s.Evolves t) (hg : t.gather? k = some g) (o : Ending) :
    s.Evolves (t.expireGather k g o) := (h.endGather hg o).passIf _ _

theorem State.Evolves.clampPorts (h : s.Evolves t) (number : Nat) : s.Evolves (t.clampPorts number) := by
  have hfold : s.Evolves ((List.range Config.ports).foldl (clampPort number) (t, [])).1 := by
    refine List.foldlRecOn (motive := fun a : State × List Nat => s.Evolves a.1) _ _ h fun a ha p _ => ?_
    unfold clampPort
    dsimp only
    split
    · exact ha.setPort (Port.bring_queues ..)
    · exact ha
  exact hfold.passes _

/-! ## The commands -/

/-- Every command but part reset and OPEN is made of elementary changes. -/
theorem exec_evolves (c : Instr) (hreset : c ≠ .partReset) (hopen : c ≠ .openQuery) (s : State) :
    ∃ t, exec c s = .next t ∧ s.Evolves t := by
  have hself : s.Evolves s := .refl
  cases c with
  | partReset => exact absurd rfl hreset
  | openQuery => exact absurd rfl hopen
  | lossOfFraming => exact ⟨_, rfl, .ite (fun _ => .congr hself.linkReset rfl) hself⟩
  | framingAcquired => exact ⟨_, rfl, .congr hself rfl⟩
  | queryArrival words => exact ⟨_, rfl, .ite (fun _ => .ite (fun _ => .congr hself rfl) (hself.raise _)) hself⟩
  | undefinedSignal words => exact ⟨s, rfl, hself⟩
  | extendQuery => exact ⟨_, rfl, .takeQuery s _ fun q _ hu => hu.extendGather q⟩
  | reclassQuery => exact ⟨_, rfl, .takeQuery s _ fun q _ hu => hu.reclassGather q⟩
  | closeQuery => exact ⟨_, rfl, .takeQuery s _ fun q _ hu => hu.closeGather q⟩
  | arriveQuery => exact ⟨_, rfl, .takeQuery s _ fun q _ hu => hu.classify q⟩
  | undefinedQuery => exact ⟨_, rfl, .takeQuery s _ fun _ _ hu => hu⟩
  | answer =>
    refine ⟨_, rfl, ?_⟩
    split
    · exact hself
    · exact .ite (fun _ => .congr hself rfl) hself
  | drawEmission =>
    refine ⟨_, rfl, ?_⟩
    split
    · exact hself
    · split
      · exact hself
      · rename_i hv
        exact .ite (fun _ => hself.depart hv) hself
  | staleDiscard =>
    refine ⟨_, rfl, ?_⟩
    split
    · exact hself
    · split
      · exact State.Evolves.handPlace (t := { s with emq := s.emq.tail }) (.congr hself rfl) _ _
      · exact hself
  | emitCredit count => exact ⟨_, rfl, .ite (fun _ => .congr hself rfl) hself⟩
  | linkReset => exact ⟨_, rfl, .ite (fun _ => hself.linkReset) hself⟩
  | report port depth =>
    exact ⟨_, rfl, .ite (fun _ => hself.applyPort _ _ (Port.report_same ..).2.2.2) hself⟩
  | dwellExpiry port => exact ⟨_, rfl, .ite (fun _ => hself.applyPort _ _ rfl) hself⟩
  | staleExpiry port => exact ⟨_, rfl, .ite (fun _ => State.Evolves.raise
    (hself.setPort (v := (s.port port).goStale s.timebase) rfl) _) hself⟩
  | drawDeadlineExpiry slot position =>
    refine ⟨_, rfl, ?_⟩
    split
    · exact hself
    · rename_i hg
      split
      · exact hself
      · rename_i hm
        exact .ite (fun _ => hself.reclaim hg (List.mem_of_getElem? hm)) hself
  | idleExpiry slot =>
    refine ⟨_, rfl, ?_⟩
    split
    · exact hself
    · rename_i hg
      exact .ite (fun _ => hself.expireGather hg _) hself
  | lifetimeExpiry slot =>
    refine ⟨_, rfl, ?_⟩
    split
    · exact hself
    · rename_i hg
      exact .ite (fun _ => hself.expireGather hg _) hself
  | lingerExpiry slot =>
    refine ⟨_, rfl, ?_⟩
    split
    · exact hself
    · rename_i hg
      exact .ite (fun _ => .free _ _ _ hself hg rfl) hself
  | enablePort port tag =>
    exact ⟨_, rfl, .ite (fun _ => (hself.enableAt _).finishCommand _ _ _ _) (hself.finishCommand _ _ _ _)⟩
  | disablePort port tag =>
    exact ⟨_, rfl, .ite (fun _ => (hself.disableAt _).finishCommand _ _ _ _) (hself.finishCommand _ _ _ _)⟩
  | retireGather port tag =>
    refine ⟨_, rfl, .ite (fun _ => ?_) (hself.finishCommand _ _ _ _)⟩
    split
    · exact hself.finishCommand _ _ _ _
    · exact ((hself.retire _).passIf _ _).finishCommand _ _ _ _
  | purgeAll port tag => exact ⟨_, rfl, ((hself.retireAll _).passes _).finishCommand _ _ _ _⟩
  | metersStart port tag => exact ⟨_, rfl, (hself.mapMeters _).finishCommand _ _ _ _⟩
  | metersStop port tag => exact ⟨_, rfl, (hself.mapMeters _).finishCommand _ _ _ _⟩
  | badCommand code port tag => exact ⟨_, rfl, .ite (fun _ => hself.finishCommand _ _ _ _) hself⟩
  | profileWrite value =>
    refine ⟨_, rfl, ?_⟩
    split
    · rename_i number w _
      have hwrite : s.Evolves (s.setProfile number ((s.profileAt number).store w value)).advance :=
        (State.Evolves.profile _ _ hself).advance
      exact .ite (fun _ => hwrite.clampPorts number) hwrite
    · exact hself
  | profileNumberWrite value =>
    refine ⟨_, rfl, ?_⟩
    split
    · rename_i p _
      exact hself.writePort (Port.setProfile_queues (field value 0 3) (s.profileAt (field value 0 3 : BitVec 3).toNat)
        (s.port p)) _
    · exact hself
  | adminFloorWrite value =>
    refine ⟨_, rfl, ?_⟩
    split
    · rename_i p _
      exact hself.writePort
        (v := Port.refloor (s.profileOf p) { s.port p with adminFloor := field value 0 3 }) rfl _
    · exact hself
  | portStatusRead =>
    refine ⟨_, rfl, ?_⟩
    split
    · rename_i p _
      exact State.Evolves.setPort (t := s.readWindow) (v := { s.port p with atFloor := false, atCeiling := false })
        (.congr hself rfl) rfl
    · exact hself
  | exemptWrite value =>
    refine ⟨_, rfl, ?_⟩
    split
    · exact (State.Evolves.window _ _ hself).advance
    · exact hself
  | meterConfigWrite value =>
    refine ⟨_, rfl, ?_⟩
    split
    · exact .meter _ _ hself.advance
    · exact hself
  | meterCountWrite value =>
    refine ⟨_, rfl, ?_⟩
    split
    · exact .meter _ _ hself.advance
    · exact .meter _ _ hself.advance
    · exact hself
  | meterFlagClear value =>
    refine ⟨_, rfl, ?_⟩
    split
    · exact .meter _ _ hself.advance
    · exact hself
  | tableWindowRead =>
    refine ⟨_, rfl, ?_⟩
    split
    · exact hself
    · exact .congr hself rfl
  | attnSummaryWrite value => exact ⟨_, rfl, .congr hself rfl⟩
  | attnEnableWrite value => exact ⟨_, rfl, .congr hself rfl⟩
  | poolLowMarkWrite value => exact ⟨_, rfl, .congr hself rfl⟩
  | registerWrite index lanes value =>
    exact ⟨_, rfl, .ite (fun _ => .ite (fun _ => .congr hself rfl) (.ite (fun _ => .congr hself rfl) hself)) hself⟩
  | timebaseAdvance => exact ⟨_, rfl, .ite (fun _ => hself) (.congr hself rfl)⟩

/-- Every command but part reset is made of elementary changes, with at most one opening among them. -/
theorem exec_evolvesOpening (c : Instr) (hreset : c ≠ .partReset) (ht : exec c s = .next t) : s.EvolvesOpening t := by
  by_cases hopen : c = .openQuery
  · subst hopen
    obtain rfl := Host.Outcome.next.inj ht
    exact s.evolvesOpening_takeOpen _
  · obtain ⟨u, hu, h⟩ := exec_evolves c hreset hopen s
    obtain rfl := Host.Outcome.next.inj (ht.symm.trans hu)
    exact .inl h

end

end Sys2Proof.Machine

/-! The canonical form of the storage (log 11, log 12) and the growth of rosters (R74, R84): laws of the elementary changes,
and so of every command. -/

namespace Sys2Proof.Machine

/-! ## The canonical form -/

section
variable {s t : State}

theorem State.Canonical.congr (h : s.Canonical) (ht : t.stored = s.stored) : t.Canonical := by
  obtain ⟨hw, hs, hf, hp, hpf, hm⟩ : t.windows = s.windows ∧ t.slots = s.slots ∧ t.free = s.free ∧ t.ports = s.ports ∧
      t.profiles = s.profiles ∧ t.meters = s.meters := by simpa [State.stored] using ht
  constructor
  · rw [hw]; exact h.windows
  · rw [hs]; exact h.slots
  · rw [hp]; exact h.ports
  · rw [hpf]; exact h.profiles
  · rw [hm]; exact h.meters
  · rw [hp]; exact h.queues
  · rw [hf]; exact h.free

/-- A write of a port whose class queues are in their canonical form. -/
theorem State.Canonical.setPort (h : s.Canonical) (p : Nat) {v : Port} (hv : Table.wf [] v.queues) :
    (s.setPort p v).Canonical :=
  { h with
    ports := Table.wf_set _ _ _ _ h.ports
    queues := fun e he => by
      rcases Table.mem_set _ _ _ _ e he with rfl | he
      · exact hv
      · exact h.queues e he }

theorem State.Canonical.setGather (h : s.Canonical) (k : Nat) (g : Gather) : (s.setGather k g).Canonical :=
  { h with slots := Table.wf_set _ _ _ _ h.slots }

theorem State.Canonical.takeFree (h : s.Canonical) {e : Nat} {f : List Run} (hf : Machine.takeFree s.free = some (e, f)) :
    ({ s with free := f } : State).Canonical :=
  ⟨h.windows, h.slots, h.ports, h.profiles, h.meters, h.queues, takeFree_wf _ f e h.free hf⟩

theorem Port.Requeues.wf {pt v : Port} (h : pt.Requeues v) (hpt : Table.wf [] pt.queues) : Table.wf [] v.queues := by
  rcases h with h | ⟨c, q, h⟩
  · rw [h]; exact hpt
  · rw [h]; exact Table.wf_set _ _ _ _ hpt

/-- Every elementary change keeps the canonical form. -/
theorem State.Evolves.canonical (h : s.Evolves t) (hs : s.Canonical) : t.Canonical := by
  induction h with
  | refl => exact hs
  | congr _ hu ih => exact ih.congr hu
  | window i v _ ih => exact { ih with windows := Table.wf_set _ _ _ _ ih.windows }
  | profile i v _ ih => exact { ih with profiles := Table.wf_set _ _ _ _ ih.profiles }
  | meter i v _ ih => exact { ih with meters := Table.wf_set _ _ _ _ ih.meters }
  | port p v _ hv ih => exact ih.setPort p (hv.wf ((State.queues_wf_iff ih.ports).1 ih.queues p))
  | taken e f _ hf ih => exact ih.takeFree hf
  | alter k g g' _ _ _ ih => exact ih.setGather k g'
  | join k g e f pf token announced expected _ _ hf ih =>
    exact (ih.takeFree hf).setGather k _
  | free k g g' _ _ _ ih =>
    exact { ih with slots := Table.wf_set _ _ _ _ ih.slots, free := appendAll_wf _ _ ih.free }

theorem State.EvolvesOpening.canonical (h : s.EvolvesOpening t) (hs : s.Canonical) : t.Canonical := by
  obtain h | ⟨u, k, g, hu, -, -, h⟩ := h
  · exact h.canonical hs
  · exact h.canonical ((hu.canonical hs).setGather k g)

/-- Every command keeps the canonical form; part reset sets it. -/
theorem State.Canonical.exec (h : s.Canonical) (c : Instr) (ht : Machine.exec c s = .next t) : t.Canonical := by
  by_cases hreset : c = .partReset
  · subst hreset
    obtain rfl := Host.Outcome.next.inj ht
    exact resetIsSafe.canonical.congr rfl
  · exact (exec_evolvesOpening c hreset ht).canonical h

end

/-- Settles O4: a step carries out the front command, and every command is made of changes that keep the form. -/
theorem canonicalKept : Obligations.CanonicalKept := by
  intro s t h hstep
  unfold step at hstep
  split at hstep
  · obtain rfl := Host.Outcome.next.inj hstep
    exact h
  · rename_i c rest _
    exact (h.congr (t := { s with pending := rest }) rfl).exec c hstep

/-! ## Rosters -/

/-- How a slot's record goes on where no record is opened: a FREE slot stays FREE, a record goes on with its members at
their positions, or goes FREE with the generation advanced (R48, R74). -/
inductive Slot.Grows : Slot → Slot → Prop
  | vacant (n : BitVec 8) : Slot.Grows ⟨n, none⟩ ⟨n, none⟩
  | stands (n : BitVec 8) (g g' : Gather) : g.Keeps g' → Slot.Grows ⟨n, some g⟩ ⟨n, some g'⟩
  | freed (n : BitVec 8) (g : Gather) : Slot.Grows ⟨n, some g⟩ ⟨n + 1#8, none⟩

/-- The pool entries that are free or held are all different, and every slot goes on from its state in `s` (R69, R74). -/
structure State.Grows (s t : State) : Prop where
  slots : Table.wf Slot.reset t.slots
  pool : (freeEntries t.free ++ t.heldEntries).Nodup
  grows : ∀ k, (s.slot k).Grows (t.slot k)

section
variable {k : Nat} {s t u : State} {g g' : Gather} {x y : Slot}

theorem Slot.Grows.refl (x : Slot) : x.Grows x := by
  obtain ⟨n, body⟩ := x
  cases body with
  | none => exact .vacant n
  | some g => exact .stands n g g (.refl g)

/-- A standing record comes from the record that stood before it. -/
theorem Slot.Grows.record (h : x.Grows y) (hg : y.body = some g) :
    x.generation = y.generation ∧ ∃ g₀, x = ⟨y.generation, some g₀⟩ ∧ g₀.Keeps g := by
  cases h with
  | vacant n => cases hg
  | stands n g₀ g' hk =>
    obtain rfl := Option.some.inj hg
    exact ⟨rfl, g₀, rfl, hk⟩
  | freed n g₀ => cases hg

theorem takeFree_entries {f f' : List Run} {e : Nat} (h : takeFree f = some (e, f')) :
    freeEntries f = e :: freeEntries f' := by
  cases hf : freeEntries f with
  | nil => rw [takeFree_none f hf] at h; cases h
  | cons e' rest =>
    obtain ⟨f'', htake, hrest⟩ := takeFree_some f e' rest hf
    cases h.symm.trans htake
    rw [hrest]

/-- The held entries, those of slot `k`'s record first. -/
theorem State.heldEntries_record (h : Table.wf Slot.reset s.slots) (hg : s.gather? k = some g) :
    s.heldEntries.Perm (g.entries ++ (s.recordsBut k).flatMap fun r => r.2.entries) := by
  have := State.heldEntries_perm h k
  rwa [hg, Option.toList_some, List.flatMap_singleton] at this

theorem State.heldEntries_vacant (h : Table.wf Slot.reset s.slots) (hg : s.gather? k = none) :
    s.heldEntries.Perm ((s.recordsBut k).flatMap fun r => r.2.entries) := by
  have := State.heldEntries_perm h k
  rwa [hg, Option.toList_none, List.flatMap_nil, List.nil_append] at this

theorem State.Grows.congr (h : s.Grows t) (hslots : u.slots = t.slots) (hfree : u.free = t.free) : s.Grows u where
  slots := by rw [hslots]; exact h.slots
  pool := by
    have : u.heldEntries = t.heldEntries := by unfold State.heldEntries State.records; rw [hslots]
    rw [hfree, this]; exact h.pool
  grows k := by
    have : u.slot k = t.slot k := by unfold State.slot; rw [hslots]
    rw [this]; exact h.grows k

/-- A record changes, and the pool with it by the entries its roster gains from the free list. -/
theorem State.Grows.setRecord (h : s.Grows t) (hg : t.gather? k = some g) (hslots : u.slots = (t.setGather k g').slots)
    (hpool : (freeEntries u.free ++ g'.entries).Perm (freeEntries t.free ++ g.entries)) (hk : g.Keeps g') : s.Grows u := by
  have hslot : ∀ j, u.slot j = if j = k then ⟨(t.slot k).generation, some g'⟩ else t.slot j := by
    intro j
    rw [← State.slot_setGather]
    unfold State.slot
    rw [hslots]
  have hwf : Table.wf Slot.reset u.slots := by rw [hslots]; exact Table.wf_set _ _ _ _ h.slots
  have hrecord : u.gather? k = some g' := by unfold State.gather?; rw [hslot, if_pos rfl]
  refine ⟨hwf, ?_, fun j => ?_⟩
  · have hbut := State.recordsBut_congr h.slots hwf fun j hj => by rw [hslot, if_neg hj]
    have hnew := (State.heldEntries_record hwf hrecord).append_left (freeEntries u.free)
    have hold := (State.heldEntries_record h.slots hg).append_left (freeEntries t.free)
    rw [hbut, ← List.append_assoc] at hnew
    rw [← List.append_assoc] at hold
    exact ((hnew.trans (hpool.append_right _)).trans hold.symm).nodup_iff.2 h.pool
  · rw [hslot]
    split
    · rename_i hj
      obtain ⟨-, g₀, hx, hk₀⟩ := (h.grows k).record hg
      rw [hj, hx]
      exact .stands _ g₀ g' (hk₀.trans hk)
    · exact h.grows j

theorem State.Grows.entries_nodup (h : s.Grows t) (hg : t.gather? k = some g) : g.entries.Nodup := by
  have := (State.heldEntries_record h.slots hg).nodup_iff.1 (List.nodup_append.1 h.pool).2.1
  exact (List.nodup_append.1 this).1

/-- An entry at the head of the free list is on no roster. -/
theorem State.Grows.fresh (h : s.Grows t) (hg : t.gather? k = some g) {e : Nat} (he : e ∈ freeEntries t.free) :
    e ∉ g.entries := fun hmem =>
  (List.nodup_append.1 h.pool).2.2 e he e
    ((State.heldEntries_record h.slots hg).mem_iff.2 (List.mem_append_left _ hmem)) rfl

/-- The record with a taken entry at the tail of its roster, before any re-evaluation (R51, R75). -/
def Gather.withTaken (e : Nat) (token : Token) (announced : Bool) (expected : Option Nat) (g : Gather) : Gather :=
  { g with roster := g.roster ++ [Member.taken e token announced expected g.allowance] }

theorem Gather.addMember_eq_ite (g : Gather) (pf : Profile) (e : Nat) (token : Token) (announced : Bool)
    (expected : Option Nat) : g.addMember pf e token announced expected =
      if g.allowance = 0 then (g.withTaken e token announced expected).reevaluate pf e
      else g.withTaken e token announced expected := rfl

theorem Gather.withTaken_entries (g : Gather) (e : Nat) (token : Token) (announced : Bool) (expected : Option Nat) :
    (g.withTaken e token announced expected).entries = g.entries ++ [e] := by
  simp [Gather.withTaken, Gather.entries, Member.taken]

theorem Gather.withTaken_keeps (g : Gather) (e : Nat) (token : Token) (announced : Bool) (expected : Option Nat) :
    g.Keeps (g.withTaken e token announced expected) := fun _ m hm =>
  ⟨m, (List.getElem?_append_left (List.getElem?_eq_some_iff.1 hm).1).trans hm, .refl m⟩

/-- The join of a member on an entry that the roster does not hold (R74, R75). -/
theorem Gather.addMember_keeps (hn : g.entries.Nodup) {e : Nat} (he : e ∉ g.entries) (pf : Profile) (token : Token)
    (announced : Bool) (expected : Option Nat) : g.Keeps (g.addMember pf e token announced expected) ∧
      (g.addMember pf e token announced expected).entries = g.entries ++ [e] := by
  have hkeeps := g.withTaken_keeps e token announced expected
  have hentries := g.withTaken_entries e token announced expected
  have hchange := Gather.reevaluate_changes pf e (g.withTaken e token announced expected)
  have hnodup : (g.entries ++ [e]).Nodup := (List.perm_append_singleton e g.entries).nodup_iff.2 (List.nodup_cons.2 ⟨he, hn⟩)
  rw [Gather.addMember_eq_ite]
  split
  · exact ⟨hkeeps.trans (hchange.keeps (hentries ▸ hnodup)), hchange.entries.trans hentries⟩
  · exact ⟨hkeeps, hentries⟩

/-- A record goes FREE with its entries at the tail of the free list (R48). -/
theorem State.Grows.freeSlot (h : s.Grows t) (hg : t.gather? k = some g) (he : g'.entries = g.entries) :
    s.Grows (t.freeSlot k g') := by
  obtain ⟨hself, hothers, hfree⟩ := t.freeSlot_entries k g'
  have hwf : Table.wf Slot.reset (t.freeSlot k g').slots := Table.wf_set _ _ _ _ h.slots
  have hvacant : (t.freeSlot k g').gather? k = none := by unfold State.gather?; rw [hself]
  refine ⟨hwf, ?_, fun j => ?_⟩
  · have hold := (State.heldEntries_record h.slots hg).append_left (freeEntries t.free)
    have hnew := (State.heldEntries_vacant hwf hvacant).append_left (freeEntries (t.freeSlot k g').free)
    rw [State.recordsBut_congr h.slots hwf hothers, hfree] at hnew
    rw [← he, Gather.entries, ← List.append_assoc] at hold
    rw [hfree]
    exact (hnew.trans hold.symm).nodup_iff.2 h.pool
  · by_cases hj : j = k
    · subst hj
      obtain ⟨-, g₀, hx, -⟩ := (h.grows j).record hg
      rw [hself, hx]
      exact .freed _ g₀
    · rw [hothers j hj]; exact h.grows j

/-- Every elementary change lets rosters grow at their tails alone. -/
theorem State.Evolves.grows (h : s.Evolves t) (hs : Table.wf Slot.reset s.slots)
    (hpool : (freeEntries s.free ++ s.heldEntries).Nodup) : s.Grows t := by
  induction h with
  | refl => exact ⟨hs, hpool, fun k => .refl _⟩
  | congr _ hu ih =>
    exact ih.congr (congrArg (fun x => x.2.1) hu) (congrArg (fun x => x.2.2.1) hu)
  | window i v _ ih => exact ih.congr rfl rfl
  | profile i v _ ih => exact ih.congr rfl rfl
  | meter i v _ ih => exact ih.congr rfl rfl
  | port p v _ _ ih => exact ih.congr rfl rfl
  | taken e f _ hf ih =>
    refine ⟨ih.slots, ?_, ih.grows⟩
    have hnodup := ih.pool
    rw [takeFree_entries hf, List.cons_append] at hnodup
    exact hnodup.of_cons
  | alter k g g' _ hg hc ih =>
    exact ih.setRecord hg rfl (by rw [hc.entries]; exact .refl _) (hc.keeps (ih.entries_nodup hg))
  | join k g e f pf token announced expected _ hg hf ih =>
    have hentries := takeFree_entries hf
    obtain ⟨hkeeps, hadded⟩ := Gather.addMember_keeps (ih.entries_nodup hg)
      (ih.fresh hg (hentries ▸ List.mem_cons_self)) pf token announced expected
    refine ih.setRecord hg rfl ?_ hkeeps
    rw [hadded, hentries, ← List.append_assoc]
    exact List.perm_append_singleton e _
  | free k g g' _ hg he ih => exact ih.freeSlot hg he

/-- The facts of a slot that goes on: its record stands where its generation does, and the generation advances by at most
one. -/
theorem Slot.Grows.facts (h : x.Grows y) : (y.generation = x.generation ∨ y.generation = x.generation + 1#8) ∧
    ∀ g, x.body = some g → y.generation = x.generation → ∃ g', y.body = some g' ∧ g.Keeps g' := by
  cases h with
  | vacant n => exact ⟨.inl rfl, nofun⟩
  | stands n g g' hk => exact ⟨.inl rfl, fun x hx _ => ⟨g', rfl, Option.some.inj hx ▸ hk⟩⟩
  | freed n g => exact ⟨.inr rfl, fun _ _ hn => absurd hn (by bv_omega)⟩

/-- A record without members set in a FREE slot leaves the entries of the pool as they are (R50, R69). -/
theorem State.Grows.opened_pool (h : s.Grows u) (hk : u.gather? k = none) (hg : g.roster = []) :
    Table.wf Slot.reset (u.setGather k g).slots ∧
      (freeEntries (u.setGather k g).free ++ (u.setGather k g).heldEntries).Nodup := by
  have hwf : Table.wf Slot.reset (u.setGather k g).slots := Table.wf_set _ _ _ _ h.slots
  have hnew := State.heldEntries_record hwf (k := k) (g := g) (by rw [State.gather?_setGather, if_pos rfl])
  rw [State.recordsBut_congr h.slots hwf fun j hj => by rw [State.slot_setGather, if_neg hj], Gather.entries, hg,
    List.map_nil, List.nil_append] at hnew
  exact ⟨hwf, ((hnew.trans (State.heldEntries_vacant h.slots hk).symm).append_left _).nodup_iff.2 h.pool⟩

/-- A record opened between two runs of elementary changes took a slot that held no record of the same generation: every
record whose generation stands was none of it. -/
theorem State.Grows.opening (h : s.Grows u) (hk : u.gather? k = none) (h' : (u.setGather k g).Grows t) {j : Nat}
    (hj : s.gather? j = some g') (hn : (t.slot j).generation = (s.slot j).generation) :
    ∃ x, t.gather? j = some x ∧ g'.Keeps x := by
  obtain ⟨hgen, hkeep⟩ := (h.grows j).facts
  obtain ⟨hgen', hkeep'⟩ := (h'.grows j).facts
  have hset : ((u.setGather k g).slot j).generation = (u.slot j).generation := by
    rw [State.slot_setGather]
    split
    · rename_i hjk; rw [hjk]
    · rfl
  rw [hset] at hgen' hkeep'
  have hstays : (u.slot j).generation = (s.slot j).generation := by bv_omega
  obtain ⟨x, hx, hxk⟩ := hkeep g' hj hstays
  have hjk : j ≠ k := fun hjk => by
    rw [hjk] at hx
    cases hx.symm.trans hk
  rw [State.slot_setGather, if_neg hjk] at hkeep'
  obtain ⟨y, hy, hyk⟩ := hkeep' x hx (hn.trans hstays.symm)
  exact ⟨y, hy, hxk.trans hyk⟩

/-- A record whose generation stands after a command but part reset goes on with its members at their positions. -/
theorem State.EvolvesOpening.keeps (h : s.EvolvesOpening t) (hs : s.Safe) (hg : s.gather? k = some g)
    (hn : (t.slot k).generation = (s.slot k).generation) : ∃ g', t.gather? k = some g' ∧ g.Keeps g' := by
  have hpool : (freeEntries s.free ++ s.heldEntries).Nodup := hs.pool.nodup_iff.2 List.nodup_range
  obtain h | ⟨u, j, new, hu, hvacant, hempty, h⟩ := h
  · exact ((h.grows hs.canonical.slots hpool).grows k).facts.2 g hg hn
  · have hgrows := hu.grows hs.canonical.slots hpool
    obtain ⟨hwf, hnodup⟩ := hgrows.opened_pool hvacant hempty
    exact hgrows.opening hvacant (h.grows hwf hnodup) hg hn

end

/-- Settles O13: a member that goes on keeps its fields, and its counts are within their limits in a safe state. -/
theorem rosterGrowsAtTail : Obligations.RosterGrowsAtTail := by
  intro c s t k g hs ht hreset hg hn
  obtain ⟨g', hg', hkeeps⟩ := (exec_evolvesOpening c hreset ht).keeps hs hg hn
  refine ⟨g', hg', fun i m hm => ?_⟩
  obtain ⟨m', hm', hgo⟩ := hkeeps i m hm
  obtain ⟨hpassed, htrims⟩ : m.passed ≤ 16777215 ∧ m.trims ≤ 255 := by
    have hlawful := hs.work.lawful k g hg
    unfold Gather.lawful at hlawful
    simp only [Bool.and_eq_true, List.all_eq_true] at hlawful
    obtain ⟨-, -, -, -, hp, ht, -⟩ := (Member.inRange_iff _ _).1 (hlawful.1.2 m (List.mem_of_getElem? hm))
    exact ⟨hp, ht⟩
  exact ⟨m', hm', hgo.entry, hgo.token, hgo.announced, hgo.expected, hgo.openLeft, (hgo.passed hpassed).1,
    (hgo.trims htrims).1⟩

end Sys2Proof.Machine

/-! The gather records: their completion test, RECLASS, the endings of an ACTIVE gather and of a lingering one, the
replacement of a lingering record by an OPEN, the arrival of a member, and the reclaim of a draw (R45 to R49, R56 to R63,
R77 to R96). -/

namespace Sys2Proof.Machine

/-! ## The completion test -/

theorem Gather.isComplete_iff (g : Gather) : g.isComplete = true ↔
    (∀ m ∈ g.roster, m.phase = .finished ∨ m.phase = .lapsed) ∧ max 1 (min g.announced 256) ≤ g.roster.length := by
  simp [Gather.isComplete, Gather.threshold]

/-- Settles O37: the threshold is at least 1, so an empty roster never meets it. -/
theorem completionTest : Obligations.CompletionTest := by
  refine ⟨Gather.isComplete_iff, fun g h => by simp [Gather.threshold, h], fun g h => ?_, fun g h => ?_⟩
  · simp only [Gather.threshold, Nat.min_eq_right h]
    rfl
  · by_contra hne
    have hsize := ((Gather.isComplete_iff g).1 (by simpa using hne)).2
    rw [h, List.length_nil] at hsize
    omega

/-! ## A record goes FREE -/

/-- A freed slot is as R48 says. -/
theorem State.freeSlot_freed (s : State) (k : Nat) (g : Gather) : s.Freed k g (s.freeSlot k g) :=
  have ⟨hslot, hothers, hfree⟩ := s.freeSlot_entries k g
  ⟨hslot, hothers, hfree, rfl⟩

section
variable {s : State} {q : List Word} {p k : Nat} {tag : Tag} {g : Gather}

theorem State.lookup_of_lookupGather (h : s.lookupGather p tag = some (k, g)) : s.lookup p tag = some k := by
  unfold State.lookupGather at h
  split at h
  · cases h
  · rename_i j hj
    obtain ⟨g', -, hk⟩ := Option.map_eq_some_iff.1 h
    rw [hj, (Prod.mk.inj hk).1]

theorem State.lookup_of_lookupGather_none (h : s.lookupGather p tag = none) : s.lookup p tag = none := by
  cases hl : s.lookup p tag with
  | none => rfl
  | some k =>
    have hkey : s.hasKey p tag k = true := List.find?_some hl
    unfold State.lookupGather at h
    rw [hl] at h
    unfold State.hasKey at hkey
    rw [Option.map_eq_none_iff.1 h] at hkey
    cases hkey

/-! ## CLOSE and RECLASS -/

/-- A CLOSE that passes its checks is carried out by the Gather Table (R17, R19). -/
theorem exec_close_accepts (h : s.MayTake q) (hk : kindOf q = 4#4) (ha : s.Accepts q) :
    exec .closeQuery s = .next (s.popQuery.closeGather q) :=
  congrArg Host.Outcome.next (State.takeQuery_accepts _ _ h ha (by simp [hk]))

theorem State.closeGather_lingering {o : Ending} (hl : s.lookupGather (portOf q) (tagOf q) = some (k, g))
    (hg : g.stage = .linger o) : s.closeGather q = s.answerSlot q k := by
  unfold State.closeGather
  simp only [hl, hg]

theorem State.closeGather_active (hl : s.lookupGather (portOf q) (tagOf q) = some (k, g)) (hg : g.stage = .active) :
    s.closeGather q = s.closeAt q k g := by
  unfold State.closeGather
  simp only [hl, hg]

theorem due_some {now d : Time} (h : (now - d).toNat < 2 ^ 31) : due now (some d) = true := reached_of_lt h

end

/-- Settles O29. -/
theorem lingeringRecordClosesAndExpires : Obligations.LingeringRecordClosesAndExpires := by
  refine ⟨fun s q k g o h hk ha hl hg => ?_, fun s k g o d hg ho hd hnow => ⟨_, s.freeSlot_freed k g, ?_⟩⟩
  · rw [exec_close_accepts h hk ha, State.closeGather_lingering ((s.popQuery_lookupGather ..).trans hl) hg,
      State.answerSlot, hk]
    rfl
  · simp [exec, execLingerExpiry, hg, ho, hd, due_some hnow]

/-- Settles O28: each of the three is an ending with its outcome and the pass of its return. -/
theorem endingsLeaveActive : Obligations.EndingsLeaveActive := by
  refine ⟨fun s q k g h hk ha hl hg => ?_, fun s k g d hg ho hd hnow => ?_, fun s k g d hg ho hd hnow => ?_⟩
  · obtain ⟨u, hu, hend⟩ := State.endGather_ended (s := s.popQuery) (k := k) (g := g) .closed
    refine ⟨u, hu, ?_⟩
    rw [exec_close_accepts h hk ha, State.closeGather_active ((s.popQuery_lookupGather ..).trans hl) hg, State.closeAt,
      hend, State.answerSlot, hk]
    rfl
  · obtain ⟨u, hu, hend⟩ := State.endGather_ended (s := s) (k := k) (g := g) .idle
    refine ⟨u, hu, ?_⟩
    simp only [exec, execIdleExpiry, hg, ho, hd, due_some hnow, State.expireGather, hend]
    rfl
  · obtain ⟨u, hu, hend⟩ := State.endGather_ended (s := s) (k := k) (g := g) .overdue
    refine ⟨u, hu, ?_⟩
    simp only [exec, execLifetimeExpiry, hg, ho, hd, due_some hnow, State.expireGather, hend]
    rfl

/-- The idle deadline re-armed, as R61 says it. -/
theorem Gather.rearmIdle_eq (pf : Profile) (now : Time) (g : Gather) : g.rearmIdle pf now = { g with
    idle := if pf.idleTime = 0#16 then none else some (now + BitVec.ofNat 32 pf.idleTime.toNat) } := by
  rw [Gather.rearmIdle, armUnlessZero_toNat]

/-- A RECLASS of an ACTIVE record, carried out: the record is put in its place and a pass follows an append (R56, R57). -/
theorem exec_reclass_active {s : State} {q : List Word} {k : Nat} {g g' : Gather} (h : s.MayTake q) (hk : kindOf q = 3#4)
    (ha : s.Accepts q) (hl : s.lookupGather (portOf q) (tagOf q) = some (k, g)) (hg : g.stage = .active)
    (hnew : (g.reclass (classOf q)).rearmIdle (s.profileOf (portOf q)) s.timebase = g') :
    exec .reclassQuery s = .next (State.appendAnswer ⟨3#4, .ok, none, BitVec.ofNat 16 k, 0#8, 0#5, 0#3⟩
      ((s.popQuery.putGather k g g').passIf (appends g g') (portOf q))) := by
  have hport := (State.lookupGather_some hl).2.1
  refine congrArg Host.Outcome.next ((State.takeQuery_accepts _ _ h ha (by simp [hk])).trans ?_)
  unfold State.reclassGather
  simp only [State.popQuery_lookupGather, hl, hg]
  rw [State.reclassAt, hport, State.popQuery_profileOf, State.popQuery_timebase, hnew, State.answerSlot, hk]

/-- A record that stands on a queue before a change and on none after it leaves its queue (R126). -/
theorem State.putGather_leaves (s : State) (k : Nat) {g g' : Gather} (hg' : g'.queued = false) :
    s.putGather k g g' = State.setGather k g' (if g.queued then s.dequeue g.port g.cls k else s) ∧
      appends g g' = false := by
  simp [State.putGather, appends, keepsPlace, hg']

/-- A record that stands on no queue before a change and on one after it is appended there (R125). -/
theorem State.putGather_appends (s : State) (k : Nat) {g g' : Gather} (hg : g.queued = false) (hg' : g'.queued = true) :
    s.putGather k g g' = (s.enqueue g'.port g'.cls k).setGather k g' ∧ appends g g' = true := by
  simp [State.putGather, appends, keepsPlace, hg, hg']

/-- A record that stands on queues before and after a change keeps its place, or moves to the tail of another class's
queue (R125, R126). -/
theorem State.putGather_moves (s : State) (k : Nat) {g g' : Gather} (hg : g.queued = true) (hg' : g'.queued = true) :
    (g.cls = g'.cls → s.putGather k g g' = s.setGather k g' ∧ appends g g' = false) ∧
    (g.cls ≠ g'.cls → s.putGather k g g' =
      ((s.dequeue g.port g.cls k).enqueue g'.port g'.cls k).setGather k g' ∧ appends g g' = true) := by
  constructor <;> intro h <;> simp [State.putGather, appends, keepsPlace, hg, hg', h]

/-- Settles O27: the record's place on the class queues by what the RECLASS makes of its suspension and its class. -/
theorem reclassSuspendsOrMoves : Obligations.ReclassSuspendsOrMoves := by
  intro s q k g h hk ha hl hg p v pf idle taken answer
  obtain ⟨-, hport, -⟩ := State.lookupGather_some hl
  have hqueued : g.queued = true ↔ g.suspended = false ∧ g.ring ≠ [] := by rw [Gather.queued_iff]; simp [hg]
  by_cases hv : v = 0
  · rw [if_pos hv]
    have hnew : (g.reclass v).rearmIdle pf s.timebase = { g with suspended := true, idle := idle } := by
      rw [Gather.rearmIdle_eq, Gather.reclass, if_pos hv]
    rw [exec_reclass_active h hk ha hl hg hnew]
    obtain ⟨hput, hpass⟩ := s.popQuery.putGather_leaves k (g := g) (g' := { g with suspended := true, idle := idle })
      (by simp [Gather.queued])
    rw [hput, hpass]
    simp only [hqueued, hport]
    rfl
  · rw [if_neg hv]
    have hnew : (g.reclass v).rearmIdle pf s.timebase = { g with suspended := false, cls := v, idle := idle } := by
      rw [Gather.rearmIdle_eq, Gather.reclass, if_neg hv]
    rw [exec_reclass_active h hk ha hl hg hnew]
    by_cases hring : g.ring = []
    · obtain ⟨hput, hpass⟩ := s.popQuery.putGather_leaves k (g := g)
        (g' := { g with suspended := false, cls := v, idle := idle }) (by simp [Gather.queued, hring])
      have hoff : g.queued = false := by simp [Gather.queued, hring]
      rw [hput, hpass, hoff]
      simp only [hring, if_true]
      rfl
    · have hon : ({ g with suspended := false, cls := v, idle := idle } : Gather).queued = true :=
        Gather.queued_iff.2 ⟨hg, rfl, hring⟩
      simp only [if_neg hring]
      by_cases hs : g.suspended = true
      · obtain ⟨hput, hpass⟩ := s.popQuery.putGather_appends k (g := g) (by simp [Gather.queued, hs]) hon
        rw [hput, hpass, if_pos hs]
        simp only [hport]
        rfl
      · obtain ⟨hkeep, hmove⟩ := s.popQuery.putGather_moves k (hqueued.2 ⟨by simpa using hs, hring⟩) hon
        rw [if_neg hs]
        by_cases hc : g.cls = v
        · obtain ⟨hput, hpass⟩ := hkeep hc
          rw [hput, hpass, if_pos hc]
          rfl
        · obtain ⟨hput, hpass⟩ := hmove hc
          rw [hput, hpass, if_neg hc]
          simp only [hport]
          rfl

/-! ## The replacement of a lingering record -/

/-- Settles O25: the freed slot is FREE, and no other record has the key. -/
theorem openReplacesLingeringRecord : Obligations.OpenReplacesLingeringRecord := by
  intro s q k g o hc hlaw h hk ha hl hg
  obtain ⟨hrecord, hport, htag⟩ := State.lookupGather_some hl
  have hothers := (s.freeSlot_entries k g).2.1
  have hvacant : (s.freeSlot k g).gather? k = none := by unfold State.gather?; rw [(s.freeSlot_entries k g).1]
  have hnone : (s.freeSlot k g).lookupGather (portOf q) (tagOf q) = none := by
    refine State.lookupGather_eq_none.2 fun j x hx hkey => ?_
    have hj : j ≠ k := fun hj => by rw [hj, hvacant] at hx; cases hx
    rw [State.gather?_congr (hothers j hj)] at hx
    exact hj ((State.keys_nodup_iff hc.slots).1 hlaw.keys j k x g hx hrecord (hkey.1.trans hport.symm)
      (hkey.2.trans htag.symm))
  have hlt : k < 8192 := hlaw.slots (k, g) ((State.mem_records hc.slots k g).2 hrecord)
  refine ⟨_, s.freeSlot_freed k g, hnone, ?_, ?_⟩
  · have hex : ∃ j, (s.freeSlot k g).gather? j = none := ⟨k, hvacant⟩
    exact ⟨Nat.find hex, Nat.lt_of_le_of_lt (Nat.find_min' hex hvacant) hlt, Nat.find_spec hex, fun i hi =>
      Option.isSome_iff_ne_none.2 (Nat.find_min hex hi)⟩
  · have hopened : s.popQuery.openGather q = (s.popQuery.freeSlot k g).openFresh q := by
      unfold State.openGather
      simp only [State.popQuery_lookupGather, hl, hg]
    have hfresh : (s.freeSlot k g).popQuery.openGather q = (s.popQuery.freeSlot k g).openFresh q := by
      unfold State.openGather
      rw [State.popQuery_lookupGather, hnone]
      rfl
    have htake : (s.freeSlot k g).MayTake q := h
    have haccept : (s.freeSlot k g).Accepts q := ha
    exact congrArg Host.Outcome.next (((State.takeQuery_accepts _ _ h ha (by simp [hk])).trans hopened).trans
      ((State.takeQuery_accepts _ _ htake haccept (by simp [hk])).trans hfresh).symm)

/-! ## The arrival of a member -/

theorem Gather.handle_port (pf : Profile) (now : Time) (mode : Mode) (c : Nat) (last : Bool) (m : Member) (g : Gather) :
    (g.handle pf now mode c last m).gather.port = g.port := by rw [Gather.handle_frame]

/-- The steps of an arrival of a member, in the order of R85: `h` is its handling, `g'` the record after it, `u` the state
with that record and the return, and `r` the ending of the gather where the completion test is met. -/
theorem State.arriveMember_eq {s : State} {q : List Word} {k : Nat} {g g' : Gather} {m : Member} {h : Handled} {u : State}
    {r : State × Bool} (call : Bool)
    (hh : h = g.handle (s.profileOf g.port) s.timebase (s.port g.port).mode (cellsOf (bytesOf q)) (lastOf q) m)
    (hg : g' = h.gather.rearmIdle (s.profileOf g.port) s.timebase)
    (hu : u = (s.putGather k g g').giveBack g.port h.returned)
    (hr : r = if h.finished && g'.isComplete then u.endGather k g' .complete else (u, false)) :
    s.arriveMember q k g m call = State.answerVerdict q h.verdict .roster k
      ((r.1.offer g.port h.verdict.event (cellsOf (bytesOf q))).passIf
        (call || appends g g' || decide (0 < h.returned) || r.2) g.port) := by
  subst hh hg hu hr
  rfl

/-- Settles O32: the event is the classification of an arrival whose member is found; what it does follows the order of
R85. -/
theorem arrivalOfMember : Obligations.ArrivalOfMember := by
  refine ⟨fun s q k g m h hk ha hw hl hg hm => ?_, fun s q k g m call hg => ?_⟩
  · rw [exec_arrive_accepts h hk ha, State.classify,
      show s.popQuery.matchingWindow (portOf q) (tokenOf q) = none from hw]
    simp only [State.popQuery_lookupGather, hl, hg, State.arriveRoster, hm]
    rfl
  · intro p pf c h g' u event calls answer
    have hidle : g' = h.gather.rearmIdle pf s.timebase := (Gather.rearmIdle_eq pf s.timebase h.gather).symm
    have hcount : event = h.verdict.event := (Verdict.event_eq h.verdict).symm
    have hport : g'.port = p := Gather.handle_port pf s.timebase (s.port p).mode c (lastOf q) m g
    refine ⟨fun hnot => ?_, fun hfin hcomplete => ?_⟩
    · have hr : (u, false) = if h.finished && g'.isComplete then u.endGather k g' .complete else (u, false) := by
        rw [if_neg (by simpa using hnot)]
      rw [State.arriveMember_eq call rfl hidle rfl hr, Bool.or_false, hcount]
      rfl
    · obtain ⟨v, hv, hend⟩ := State.endGather_ended (s := u) (k := k) (g := g') .complete
      have hr : (v.offer g'.port Ending.complete.event 1,
          decide (0 < (g'.roster.map fun m => m.drawQueued + m.drawOut).sum)) =
            if h.finished && g'.isComplete then u.endGather k g' .complete else (u, false) := by
        rw [hfin, hcomplete, Bool.and_self, if_pos rfl, hend]
      refine ⟨v, hv, ?_⟩
      rw [State.arriveMember_eq call rfl hidle rfl hr, hcount, hport]
      rfl

/-! ## The reclaim of a draw -/

/-- The steps of a reclaim: `g'` is the record after it, `u` the state with that record and the return, and `r` the ending
of the gather where the member lapsed and the completion test is met (R93, R94). -/
theorem State.reclaim_eq {s : State} {k : Nat} {g g' : Gather} {m : Member} {u : State} {r : State × Bool} {lapsed : Bool}
    (hl : lapsed = decide ((s.profileOf g.port).lapses ≤ m.lapses + 1))
    (hg : g' = if lapsed then g.lapseMember m.reclaimed
      else (g.setMember m.reclaimed).reevaluate (s.profileOf g.port) m.entry)
    (hu : u = ((s.putGather k g g').giveBack g.port m.drawOut).offer g.port .drawsReclaimed 1)
    (hr : r = if lapsed && g'.isComplete then u.endGather k g' .complete else (u, false)) :
    s.reclaim k g m = r.1.passIf (appends g g' || decide (0 < m.drawOut) || r.2) g.port := by
  subst hl hg hu hr
  rfl

theorem exec_drawDeadlineExpiry {s : State} {k i : Nat} {g : Gather} {m : Member} {d : Time} (hg : s.gather? k = some g)
    (hm : g.roster[i]? = some m) (ha : g.stage = .active) (hd : m.drawDeadline = some d)
    (hnow : (s.timebase - d).toNat < 2 ^ 31) : exec (.drawDeadlineExpiry k i) s = .next (s.reclaim k g m) := by
  simp [exec, execDrawDeadlineExpiry, hg, hm, ha, hd, due_some hnow]

/-- Settles O46: at the lapse limit the member lapses, and the gather ends where it was the last one live. -/
theorem drawDeadlineReclaims : Obligations.DrawDeadlineReclaims := by
  intro s k i g m d hg hm ha hd hnow p pf lapsed m' g' u calls
  rw [exec_drawDeadlineExpiry hg hm ha hd hnow]
  have hrecord : g' = if decide lapsed then g.lapseMember m.reclaimed
      else (g.setMember m.reclaimed).reevaluate pf m.entry := by
    simp only [decide_eq_true_eq]
    rfl
  have hport : g'.port = p := by
    rw [hrecord]
    split
    · rfl
    · rw [Gather.reevaluate_port, Gather.setMember_port]
  refine ⟨fun hnot => ?_, fun hlapsed hcomplete => ?_⟩
  · have hr : (u, false) = if decide lapsed && g'.isComplete then u.endGather k g' .complete else (u, false) := by
      rw [if_neg (by simpa using hnot)]
    rw [State.reclaim_eq rfl hrecord rfl hr, Bool.or_false]
  · obtain ⟨v, hv, hend⟩ := State.endGather_ended (s := u) (k := k) (g := g') .complete
    have hr : (v.offer g'.port Ending.complete.event 1,
        decide (0 < (g'.roster.map fun m => m.drawQueued + m.drawOut).sum)) =
          if decide lapsed && g'.isComplete then u.endGather k g' .complete else (u, false) := by
      rw [decide_eq_true hlapsed, hcomplete, Bool.and_self, if_pos rfl, hend]
    refine ⟨v, hv, ?_⟩
    rw [State.reclaim_eq rfl hrecord rfl hr, hport]
    rfl

end Sys2Proof.Machine

/-! The host's commands that free records: RETIRE_GATHER, DISABLE_PORT and PURGE_ALL (R65 to R67, R145, R146, R160 to
R163). -/

namespace Sys2Proof.Machine

/-! ## A command is taken -/

/-- The word of COMMAND is its code, its port field and its tag field in this order (R173). -/
theorem commandWord_eq (code port : BitVec 8) (tag : Tag) : commandWord code port tag = code ++ port ++ tag := by
  refine BitVec.eq_of_toNat_eq ?_
  have htag : (place 0 tag).toNat = tag.toNat := by rw [place_toNat _ (by decide)]; omega
  have hport : (place 16 port ||| place 0 tag).toNat = port.toNat * 2 ^ 16 + tag.toNat := by
    rw [place_or_toNat _ (by decide) (by omega), htag]
  rw [commandWord, BitVec.or_assoc, place_or_toNat _ (by decide) (by omega), hport, BitVec.toNat_append,
    BitVec.toNat_append, ← Nat.shiftLeft_add_eq_or_of_lt tag.isLt, ← Nat.shiftLeft_add_eq_or_of_lt port.isLt]
  simp only [Nat.shiftLeft_eq]
  omega

/-- What is left of a taken command: COMMAND holds its word, and COMMAND_RESULT the advanced sequence count, the code and
the result (R173). -/
theorem State.finishCommand_eq (code port : BitVec 8) (tag : Tag) (r : Result) (s : State) :
    s.finishCommand code port tag r = { s with
      command := code ++ port ++ tag, result := ⟨s.result.sequence + 1#8, code, r⟩ } := by
  rw [State.finishCommand, commandWord_eq]

/-! ## RETIRE_GATHER -/

section
variable {s : State} {k p : Nat} {tag : Tag} {g : Gather}

theorem State.retire_active (hg : s.gather? k = some g) (ha : g.stage = .active) :
    s.retire k = ((s.leaveActive k g).freeSlot k g, decide (0 < g.owed)) := by
  unfold State.retire
  simp only [hg, ha]

theorem State.retire_lingering {o : Ending} (hg : s.gather? k = some g) (ho : g.stage = .linger o) :
    s.retire k = (s.freeSlot k g, false) := by
  unfold State.retire
  simp only [hg, ho]

/-- A retired ACTIVE record changes its slot, its port and the free list alone (R65). -/
theorem State.leaveActive_freeSlot_frame (s : State) (k : Nat) (g : Gather) : (s.leaveActive k g).freeSlot k g = { s with
    slots := ((s.leaveActive k g).freeSlot k g).slots
    ports := ((s.leaveActive k g).freeSlot k g).ports
    free := ((s.leaveActive k g).freeSlot k g).free } := by
  obtain ⟨-, -, -, -, -, hframe⟩ := s.leaveActive_cases k g
  have hfree : (s.leaveActive k g).freeSlot k g = { s.leaveActive k g with
      slots := ((s.leaveActive k g).freeSlot k g).slots
      free := ((s.leaveActive k g).freeSlot k g).free } := rfl
  exact hfree.trans (congrArg (fun t : State => { t with
    slots := ((s.leaveActive k g).freeSlot k g).slots
    free := ((s.leaveActive k g).freeSlot k g).free }) hframe)

/-- RETIRE_GATHER of a key that is indexed: its record is retired and the pass of the return runs (R65, R158). -/
theorem exec_retireGather {port : BitVec 8} (hp : port.toNat < 48) (hl : s.lookupGather port.toNat tag = some (k, g)) :
    exec (.retireGather port tag) s =
      .next (((s.retire k).1.passIf (s.retire k).2 port.toNat).finishCommand 3#8 port tag .ok) := by
  have hlookup := State.lookup_of_lookupGather hl
  simp only [exec, execRetireGather]
  rw [if_pos (show port.toNat < Config.ports from hp), hlookup]

end

/-- Settles O50. -/
theorem retireGather : Obligations.RetireGather := by
  intro s port tag p done
  refine ⟨fun hp => ?_, fun hp hl => ?_, fun k g o hp hl ho => ⟨_, s.freeSlot_freed k g, ?_⟩, fun k g hp hl ha => ?_⟩
  · simp only [exec, execRetireGather]
    rw [if_neg (show ¬port.toNat < Config.ports from Nat.not_lt.2 hp), State.finishCommand_eq]
  · have hlookup : s.lookup port.toNat tag = none := State.lookup_of_lookupGather_none hl
    simp only [exec, execRetireGather]
    rw [if_pos (show port.toNat < Config.ports from hp), hlookup]
    exact congrArg Host.Outcome.next (State.finishCommand_eq ..)
  · rw [exec_retireGather hp hl, State.retire_lingering (State.lookupGather_some hl).1 ho]
    exact congrArg Host.Outcome.next (State.finishCommand_eq ..)
  · obtain ⟨hg, hport, -⟩ := State.lookupGather_some hl
    obtain ⟨hrecord, hothers, hqueue, hport', hports, -⟩ := s.leaveActive_cases k g
    obtain ⟨hslot, hslots, hfree⟩ := (s.leaveActive k g).freeSlot_entries k g
    rw [hport] at hqueue hport' hports
    refine ⟨(s.leaveActive k g).freeSlot k g, ?_, ?_, fun j hj => (hslots j hj).trans (hothers j hj), ?_,
      fun j hj => ?_, fun c => ?_, ?_, ?_⟩
    · exact s.leaveActive_freeSlot_frame k g
    · rw [hslot, hrecord]
    · rw [hfree, State.leaveActive_free]
    · rw [State.port_freeSlot]; exact hports j hj
    · rw [State.port_freeSlot]; exact hqueue c
    · rw [State.port_freeSlot]; exact hport'
    · rw [exec_retireGather hp hl, State.retire_active hg ha, State.finishCommand_eq, State.passIf_result,
        State.freeSlot_result, State.leaveActive_result]
      rfl

/-! ## Several records retired -/

/-- A slot whose record, where it holds one, goes FREE (R48). -/
def Slot.cleared (x : Slot) : Slot := if x.body.isSome then ⟨x.generation + 1#8, none⟩ else x

/-- The pool entries on the roster of a slot, none in a FREE slot. -/
def State.entriesAt (s : State) (k : Nat) : List Nat := (s.gather? k).toList.flatMap Gather.entries

/-- `t` is `s` with the records of the slots `ks` FREE (R48, R65): their rosters stand at the tail of the free list in the
order of `ks`, and a port has lost at most its draws and its queued gathers, and nothing where it has none of the
records. -/
structure State.Clears (ks : List Nat) (s t : State) : Prop where
  slots : ∀ k, t.slot k = if k ∈ ks then (s.slot k).cleared else s.slot k
  free : freeEntries t.free = freeEntries s.free ++ ks.flatMap s.entriesAt
  ports : ∀ p, (∀ k ∈ ks, ∀ g, s.gather? k = some g → g.port ≠ p) → t.port p = s.port p
  standing : ∀ p, { t.port p with outstanding := 0, queues := [] } = { s.port p with outstanding := 0, queues := [] }
  frame : t = { s with slots := t.slots, ports := t.ports, free := t.free }

section
variable {s t u : State} {k p : Nat} {ks : List Nat} {g : Gather}

theorem Slot.cleared_eq (x : Slot) :
    x.cleared = ⟨if x.body.isSome then x.generation + 1#8 else x.generation, none⟩ := by
  obtain ⟨n, body⟩ := x
  cases body <;> rfl

theorem Slot.cleared_body (x : Slot) : x.cleared.body = none := by rw [Slot.cleared_eq]

theorem Slot.cleared_vacant {x : Slot} (h : x.body = none) : x.cleared = x := by
  obtain ⟨n, body⟩ := x
  rw [Slot.cleared_eq]
  cases h
  rfl

theorem State.Clears.gather? (h : State.Clears ks s t) (k : Nat) : t.gather? k = if k ∈ ks then none else s.gather? k := by
  have hslot := h.slots k
  unfold State.gather?
  rw [hslot]
  split
  · exact Slot.cleared_body _
  · rfl

theorem State.Clears.nil (s : State) : State.Clears [] s s := ⟨fun _ => rfl, by simp, fun _ _ => rfl, fun _ => rfl, rfl⟩

/-- One record retired, ACTIVE or LINGER, or a FREE slot met. -/
theorem State.retire_clears (s : State) (k : Nat) : State.Clears [k] s (s.retire k).1 := by
  cases hg : s.gather? k with
  | none =>
    have hbody : (s.slot k).cleared = s.slot k := Slot.cleared_vacant hg
    have hself : s.retire k = (s, false) := by unfold State.retire; rw [hg]
    rw [hself]
    refine ⟨fun j => ?_, by simp [State.entriesAt, hg], fun _ _ => rfl, fun _ => rfl, rfl⟩
    split
    · rename_i hj
      rw [List.mem_singleton.1 hj, hbody]
    · rfl
  | some g =>
    have hbody : (s.slot k).cleared = ⟨(s.slot k).generation + 1#8, none⟩ :=
      by rw [Slot.cleared_eq, show (s.slot k).body = some g from hg]; rfl
    have hentries : [k].flatMap s.entriesAt = g.roster.map Member.entry := by simp [State.entriesAt, hg, Gather.entries]
    have hslots : ∀ t : State, t.slot k = ⟨(s.slot k).generation + 1#8, none⟩ → (∀ j, j ≠ k → t.slot j = s.slot j) →
        ∀ j, t.slot j = if j ∈ [k] then (s.slot j).cleared else s.slot j := by
      intro t hself hothers j
      split
      · rename_i hj
        rw [List.mem_singleton.1 hj, hself, hbody]
      · rename_i hj
        exact hothers j fun h => hj (List.mem_singleton.2 h)
    cases ha : g.stage with
    | active =>
      obtain ⟨hrecord, hothers, -, hport, hports, -⟩ := s.leaveActive_cases k g
      obtain ⟨hslot, hrest, hfree⟩ := (s.leaveActive k g).freeSlot_entries k g
      rw [State.retire_active hg ha]
      refine ⟨hslots _ (by rw [hslot, hrecord]) fun j hj => (hrest j hj).trans (hothers j hj), ?_, fun p hp => ?_,
        fun p => ?_, ?_⟩
      · rw [hfree, State.leaveActive_free, hentries]
      · rw [State.port_freeSlot]
        exact hports p fun h => hp k (List.mem_singleton_self k) g hg h.symm
      · rw [State.port_freeSlot]
        by_cases hp : p = g.port
        · rw [hp]
          exact congrArg (fun pt : Port => { pt with outstanding := 0, queues := [] }) hport
        · rw [hports p hp]
      · exact s.leaveActive_freeSlot_frame k g
    | linger o =>
      obtain ⟨hslot, hrest, hfree⟩ := s.freeSlot_entries k g
      rw [State.retire_lingering hg ha]
      exact ⟨hslots _ hslot hrest, by rw [hfree, hentries], fun _ _ => rfl, fun _ => rfl, rfl⟩

/-- The records of further slots retired. -/
theorem State.Clears.trans {ls : List Nat} (h : State.Clears ks s t) (h' : State.Clears ls t u)
    (hd : ∀ k ∈ ls, k ∉ ks) : State.Clears (ks ++ ls) s u where
  slots k := by
    rw [h'.slots, h.slots]
    by_cases hls : k ∈ ls
    · simp [hls, hd k hls]
    · simp [hls]
  free := by
    have hsame : ls.flatMap t.entriesAt = ls.flatMap s.entriesAt := by
      refine List.flatMap_congr fun k hk => ?_
      rw [State.entriesAt, h.gather?, if_neg (hd k hk), State.entriesAt]
    rw [h'.free, h.free, hsame, List.flatMap_append, List.append_assoc]
  ports p hp := by
    rw [h'.ports p fun k hk g hg => ?_, h.ports p fun k hk => hp k (List.mem_append_left _ hk)]
    rw [h.gather?, if_neg (hd k hk)] at hg
    exact hp k (List.mem_append_right _ hk) g hg
  standing p := (h'.standing p).trans (h.standing p)
  frame := by
    rw [h'.frame, h.frame]

theorem retireStep_clears (a : State × List Nat) (k : Nat) : State.Clears [k] a.1 (retireStep a k).1 := by
  unfold retireStep
  split
  · rename_i hg
    have := a.1.retire_clears k
    unfold State.retire at this
    rw [hg] at this
    exact this
  · exact a.1.retire_clears k

/-- The records of the slots `ks` are retired one after the other; the ports whose passes are called for are ports of
theirs (R66, R67). -/
theorem foldl_retireStep_clears : ∀ (ks : List Nat) (a : State × List Nat), ks.Nodup →
    State.Clears ks a.1 (ks.foldl retireStep a).1 ∧
      ∀ p ∈ (ks.foldl retireStep a).2, p ∈ a.2 ∨ ∃ k ∈ ks, ∃ g, a.1.gather? k = some g ∧ g.port = p := by
  intro ks
  induction ks with
  | nil => exact fun a _ => ⟨.nil a.1, fun p hp => .inl hp⟩
  | cons k ks ih =>
    intro a hn
    obtain ⟨hk, hn⟩ := List.nodup_cons.1 hn
    obtain ⟨hclears, hcalled⟩ := ih (retireStep a k) hn
    have hstep := retireStep_clears a k
    refine ⟨hstep.trans hclears fun j hj hjk => hk (List.mem_singleton.1 hjk ▸ hj), fun p hp => ?_⟩
    rcases hcalled p hp with hin | ⟨j, hj, g, hg, hport⟩
    · unfold retireStep at hin
      split at hin
      · exact .inl hin
      · rename_i g hg
        split at hin
        · rcases List.mem_cons.1 hin with rfl | hin
          · exact .inr ⟨k, List.mem_cons_self, g, hg, rfl⟩
          · exact .inl hin
        · exact .inl hin
    · rw [hstep.gather?] at hg
      split at hg
      · cases hg
      · exact .inr ⟨j, List.mem_cons_of_mem _ hj, g, hg, hport⟩

theorem State.retireAll_clears (s : State) (hn : ks.Nodup) : State.Clears ks s (s.retireAll ks).1 ∧
    ∀ p ∈ (s.retireAll ks).2, ∃ k ∈ ks, ∃ g, s.gather? k = some g ∧ g.port = p := by
  obtain ⟨hclears, hcalled⟩ := foldl_retireStep_clears ks (s, []) hn
  rw [State.retireAll_eq]
  exact ⟨hclears, fun p hp => (hcalled p hp).resolve_left (List.not_mem_nil)⟩

/-! ## A port without records -/

/-- A port none of whose records stand has no draw out and no queued gather (R121, R123). -/
theorem State.Sound.port_emptied {n : Nat} (h : s.Sound n) (hp : p < 48)
    (hnone : ∀ k g, s.gather? k = some g → g.port ≠ p) : (s.port p).outstanding = 0 ∧ (s.port p).queues = [] := by
  refine ⟨(h.work.draws p hp).trans (State.owedAt_eq_zero h.formed.slots hnone),
    Table.ext_of_get [] _ _ (h.formed.port p).queues (Table.wf_nil _) fun c => ?_⟩
  show (s.port p).queue c = []
  refine List.eq_nil_iff_forall_not_mem.2 fun k hk => ?_
  obtain ⟨g, hg, -, hport, -⟩ := ((h.work.queues p hp c).2 k).1 hk
  exact hnone k g hg hport

/-- A pass at a port with no queued gather does nothing (R134). -/
theorem State.drawPass_unqueued (h : (s.port p).queues = []) : s.drawPass p = s := by
  refine s.drawPass_none p ?_
  have htop : (s.port p).topClass = none := Port.topClass_none _ fun c _ _ _ => by rw [Port.queue, h]; rfl
  unfold State.headDraw
  rw [htop]

theorem State.passes_unqueued {called : List Nat} (h : ∀ p ∈ called, p < 48 → (s.port p).queues = []) :
    s.passes called = s :=
  State.passes_keeps called (· = s) (fun _ p hp hc hu => by rw [hu]; exact State.drawPass_unqueued (h p hc hp)) s rfl

/-! ## The slots in their order -/

theorem State.keys_nodup (h : Table.wf Slot.reset s.slots) : s.slots.keys.Nodup :=
  List.pairwise_map.2 (h.1.imp Nat.ne_of_lt)

/-- The rosters of the slots of some records, in slot order, from the slots or from the records. -/
theorem State.entries_of_slots (h : Table.wf Slot.reset s.slots) {f : Gather → Bool} {sel : Nat → Bool}
    (hsel : ∀ k g, s.gather? k = some g → sel k = f g) :
    (s.slots.keys.filter sel).flatMap s.entriesAt =
      (s.records.filter fun r => f r.2).flatMap fun r => r.2.roster.map Member.entry := by
  have hlist : ∀ l : Table Slot, (∀ e ∈ l, s.slot e.1 = e.2) → ((l.map Prod.fst).filter sel).flatMap s.entriesAt =
      ((recordsIn l).filter fun r => f r.2).flatMap fun r => r.2.roster.map Member.entry := by
    intro l
    induction l with
    | nil => exact fun _ => rfl
    | cons e l ih =>
      intro hl
      obtain ⟨k, x⟩ := e
      have hk : s.slot k = x := hl (k, x) List.mem_cons_self
      have ih := ih fun e he => hl e (List.mem_cons_of_mem _ he)
      cases hx : x.body with
      | none =>
        have hentries : s.entriesAt k = [] := by simp [State.entriesAt, State.gather?, hk, hx]
        have hrecords : recordsIn ((k, x) :: l) = recordsIn l := by simp [recordsIn, hx]
        rw [hrecords, ← ih, List.map_cons, List.filter_cons]
        split
        · rw [List.flatMap_cons, hentries, List.nil_append]
        · rfl
      | some g =>
        have hg : s.gather? k = some g := by rw [State.gather?, hk, hx]
        have hentries : s.entriesAt k = g.roster.map Member.entry := by simp [State.entriesAt, hg, Gather.entries]
        have hrecords : recordsIn ((k, x) :: l) = (k, g) :: recordsIn l := by simp [recordsIn, hx]
        rw [hrecords, List.map_cons, List.filter_cons, List.filter_cons, hsel k g hg]
        split
        · rw [List.flatMap_cons, List.flatMap_cons, hentries, ih]
        · exact ih
  exact hlist s.slots fun e he => Table.get_of_mem Slot.reset s.slots h.1 he

/-! ## DISABLE_PORT and PURGE_ALL -/

/-- The slots of a port's records: of no other, and each once. -/
theorem State.mem_slotsOf_iff : k ∈ s.slotsOf p ↔ ∃ g, s.gather? k = some g ∧ g.port = p := by
  constructor
  · intro h
    have hsel := (List.mem_filter.1 h).2
    cases hg : s.gather? k with
    | none => simp [hg] at hsel
    | some g => exact ⟨g, rfl, by simpa [hg] using hsel⟩
  · rintro ⟨g, hg, rfl⟩
    exact State.mem_slotsOf hg

/-- The records of an enabled port retired, from a sound state: the port has no draw out and no queue, its pass does
nothing, and the port is disabled (R67, R160). -/
theorem State.disableAt_clears {n : Nat} (h : s.Sound n) (hp : p < 48) (hon : (s.port p).enabled = true) :
    ∃ u, State.Clears (s.slotsOf p) s u ∧ (u.port p).outstanding = 0 ∧ (u.port p).queues = [] ∧
      s.disableAt p = u.setPort p (u.port p).disable := by
  obtain ⟨hclears, hcalled⟩ := s.retireAll_clears (ks := s.slotsOf p) ((State.keys_nodup h.formed.slots).filter _)
  have hempty : ∀ k g, (s.retireAll (s.slotsOf p)).1.gather? k = some g → g.port ≠ p := by
    intro k g hg hgp
    rw [hclears.gather?] at hg
    split at hg
    · cases hg
    · rename_i hk
      exact hk (State.mem_slotsOf_iff.2 ⟨g, hg, hgp⟩)
  obtain ⟨hout, hqueues⟩ := (h.retireAll (s.slotsOf p)).1.sound.port_emptied hp hempty
  have hpass : (s.retireAll (s.slotsOf p)).1.passes (s.retireAll (s.slotsOf p)).2 = (s.retireAll (s.slotsOf p)).1 := by
    refine State.passes_unqueued fun j hj _ => ?_
    obtain ⟨k, hk, g, hg, rfl⟩ := hcalled j hj
    obtain ⟨g', hg', hport⟩ := State.mem_slotsOf_iff.1 hk
    rw [← Option.some.inj (hg'.symm.trans hg), hport]
    exact hqueues
  refine ⟨_, hclears, hout, hqueues, ?_⟩
  unfold State.disableAt
  rw [if_pos hon]
  dsimp only
  rw [hpass]

/-- A port that lost its draws and its queues, and is otherwise as before. -/
theorem Port.emptied_eq {pt v : Port} (h : { v with outstanding := 0, queues := [] } = { pt with outstanding := 0, queues := [] })
    (ho : v.outstanding = 0) (hq : v.queues = []) : v = { pt with outstanding := 0, queues := [] } := by
  rw [← h, ← ho, ← hq]

end

/-- Settles O49. -/
theorem disablePort : Obligations.DisablePort := by
  intro s port tag p done
  refine ⟨fun hp => ?_, fun hp hoff => ?_, fun hp hon hsafe => ?_⟩
  · simp only [exec, execDisablePort]
    rw [if_neg (show ¬port.toNat < Config.ports from Nat.not_lt.2 hp), State.finishCommand_eq]
  · have hself : s.disableAt port.toNat = s := by
      unfold State.disableAt
      rw [if_neg (by rw [show (s.port port.toNat).enabled = false from hoff]; decide)]
    simp only [exec, execDisablePort]
    rw [if_pos (show port.toNat < Config.ports from hp), hself, State.finishCommand_eq]
  · obtain ⟨u, hclears, hout, hqueues, heq⟩ := State.disableAt_clears hsafe.sound hp hon
    refine ⟨s.disableAt p, ?_, ?_, fun k g hg hgp => ?_, fun k hk => ?_, ?_, fun j hj => ?_, ?_⟩
    · simp only [exec, execDisablePort]
      rw [if_pos (show port.toNat < Config.ports from hp), State.finishCommand_eq, heq, hclears.frame]
      rfl
    · rw [heq, hclears.frame]
      rfl
    · rw [heq, State.slot_setPort, hclears.slots, if_pos (State.mem_slotsOf_iff.2 ⟨g, hg, hgp⟩)]
      rw [Slot.cleared_eq, show (s.slot k).body = some g from hg]
      rfl
    · rw [heq, State.slot_setPort, hclears.slots, if_neg]
      rintro hmem
      obtain ⟨g, hg, hgp⟩ := State.mem_slotsOf_iff.1 hmem
      exact hk g hg hgp
    · rw [heq, State.setPort_free, hclears.free]
      exact congrArg _ (State.entries_of_slots hsafe.canonical.slots
        (f := fun g => decide (g.port = p)) fun k g hg => by rw [hg])
    · rw [heq, State.port_setPort, if_neg hj]
      refine hclears.ports j fun k hk g hg hgj => ?_
      obtain ⟨g', hg', hport⟩ := State.mem_slotsOf_iff.1 hk
      rw [← Option.some.inj (hg.symm.trans hg')] at hport
      exact hj (hgj.symm.trans hport)
    · rw [heq, State.port_setPort, if_pos rfl, Port.emptied_eq (hclears.standing p) hout hqueues]
      rfl

/-- Settles O51: every record is retired in slot order, and no port has a queued gather for its pass to serve. -/
theorem purgeAll : Obligations.PurgeAll := by
  intro s port tag hsafe
  have hwf := hsafe.canonical.slots
  obtain ⟨hclears, -⟩ := s.retireAll_clears (State.keys_nodup hwf)
  have hsound := (hsafe.sound.retireAll s.slots.keys).1.sound
  have hvacant : ∀ k, (s.retireAll s.slots.keys).1.gather? k = none := by
    intro k
    rw [hclears.gather?]
    split
    · rfl
    · rename_i hk
      cases hg : s.gather? k with
      | none => rfl
      | some g => exact absurd (State.mem_keys_of_gather? hg) hk
  have hempty : ∀ p, p < 48 → ((s.retireAll s.slots.keys).1.port p).outstanding = 0 ∧
      ((s.retireAll s.slots.keys).1.port p).queues = [] := fun p hp =>
    hsound.port_emptied hp fun k g hg => by rw [hvacant] at hg; cases hg
  have hfree : freeEntries (s.retireAll s.slots.keys).1.free = freeEntries s.free ++ s.heldEntries := by
    have hall := State.entries_of_slots hwf (f := fun _ => true) (sel := fun _ => true) fun _ _ _ => rfl
    rw [List.filter_true, List.filter_true] at hall
    rw [hclears.free, hall]
    rfl
  refine ⟨(s.retireAll s.slots.keys).1.finishCommand 4#8 port tag .ok, ?_, ?_, fun k => ?_, hfree, ?_, fun p hp => ?_,
    fun p hp => ?_⟩
  · simp only [exec, execPurgeAll]
    rw [State.passes_unqueued fun p _ hp => (hempty p hp).2]
  · rw [State.finishCommand_eq, hclears.frame]
  · refine (hclears.slots k).trans (Eq.trans ?_ (s.slot k).cleared_eq)
    split
    · rfl
    · rename_i hk
      refine (Slot.cleared_vacant ?_).symm
      cases hg : (s.slot k).body with
      | none => rfl
      | some g => exact absurd (State.mem_keys_of_gather? hg) hk
  · rw [State.finishCommand_free, freeCount_eq_length, hfree, hsafe.pool.length_eq, List.length_range]
  · exact Port.emptied_eq (hclears.standing p) (hempty p hp).1 (hempty p hp).2
  · refine hclears.ports p fun k _ g hg hport => ?_
    have hlawful := hsafe.work.lawful k g hg
    unfold Gather.lawful at hlawful
    simp only [Bool.and_eq_true, decide_eq_true_eq] at hlawful
    omega

end Sys2Proof.Machine


/-! EXTEND of an ACTIVE record: the listed entries as the roster and the pool have room for them, added behind the members
that stand, and the class queue, the attention summary and the answer (R51, R55, R71, R125). -/

namespace Sys2Proof.Machine

/-! ## The record with listed entries added -/

/-- The record `b` with the listed entries `xs` added at its roster's tail, on the pool entries at the head of `es` (R51,
R55, R72). -/
def Gather.extending (b : Gather) (es : List Nat) (xs : List (Token × Nat)) : Gather :=
  { b with
    roster := b.roster ++ List.zipWith (Member.listed b.allowance) es xs
    ring := b.ring ++ if b.allowance = 0 then (List.zipWith (Member.listed b.allowance) es xs).map Member.entry else [] }

/-- The adding of the listed entries `xs` puts the record `b` on its class queue (R125). -/
def Gather.joins (b : Gather) (xs : List (Token × Nat)) : Bool :=
  decide (b.allowance = 0 ∧ xs ≠ [] ∧ b.suspended = false ∧ b.ring = [])

section
variable {b : Gather} {e : Nat} {es rest : List Nat} {x : Token × Nat} {xs : List (Token × Nat)}

theorem Gather.extending_nil (b : Gather) (es : List Nat) : b.extending es [] = b := by
  simp [Gather.extending]

theorem Gather.extending_length (h : xs.length ≤ es.length) :
    (b.extending es xs).roster.length = b.roster.length + xs.length := by
  simp [Gather.extending, h]

theorem Gather.byToken_extending (h : xs.length ≤ es.length) (t : Token) :
    ((b.extending es xs).byToken t).isSome = true ↔ t ∈ b.roster.map Member.token ∨ t ∈ xs.map Prod.fst := by
  rw [← zipWith_listed_tokens b.allowance h, ← List.mem_append, ← List.map_append]
  simp only [Gather.byToken, Gather.extending, List.find?_isSome, beq_iff_eq, List.mem_map]

/-- The addition of a listed entry on the next free pool entry, which the record does not hold yet (R51). -/
theorem Gather.addMember_extending (ha : b.stage = .active) (hn : es.Nodup) (hroster : ∀ m ∈ b.roster, m.entry ∉ es)
    (hring : ∀ i ∈ b.ring, i ∉ es) (hd : es.drop xs.length = e :: rest) (pf : Profile) :
    (b.extending es xs).addMember pf e x.1 true (if x.2 = 0 then none else some x.2) = b.extending es (xs ++ [x]) := by
  have he : e ∈ es := List.mem_of_mem_drop (hd ▸ List.mem_cons_self)
  have hfresh : e ∉ es.take xs.length := by
    rw [← List.take_append_drop xs.length es, hd] at hn
    exact fun hin => (List.nodup_append.1 hn).2.2 e hin e List.mem_cons_self rfl
  have hentries := zipWith_listed_entries b.allowance es xs
  have hold : ∀ m ∈ (b.extending es xs).roster, m.entry ≠ e := fun m hm hme =>
    (List.mem_append.1 hm).elim (fun hm => hroster m hm (hme ▸ he))
      fun hm => hfresh (hentries ▸ hme ▸ List.mem_map_of_mem hm)
  have hoff : e ∉ (b.extending es xs).ring := by
    show e ∉ b.ring ++ if b.allowance = 0 then (List.zipWith (Member.listed b.allowance) es xs).map Member.entry else []
    rw [hentries]
    intro hin
    rcases List.mem_append.1 hin with hin | hin
    · exact hring e hin he
    · split at hin
      · exact hfresh hin
      · cases hin
  rw [Gather.addMember_eq pf e x.1 true _ (b.extending es xs) ha hold hoff]
  unfold Gather.extending
  rw [zipWith_append_singleton _ xs x hd]
  by_cases h0 : b.allowance = 0 <;> simp [h0, Member.taken, Member.listed]

/-- The record is on its class queue where it is not suspended and its ring held a member or gained one. -/
theorem Gather.queued_extending (ha : b.stage = .active) (h : xs.length ≤ es.length) :
    (b.extending es xs).queued = decide (b.suspended = false ∧ (b.ring = [] → b.allowance = 0 ∧ xs ≠ [])) := by
  have hring : (b.extending es xs).ring.isEmpty = decide (b.ring = [] ∧ (b.allowance = 0 → xs = [])) := by
    show (b.ring ++ if b.allowance = 0 then
      (List.zipWith (Member.listed b.allowance) es xs).map Member.entry else []).isEmpty = _
    rw [zipWith_listed_entries]
    have htake : es.take xs.length = [] ↔ xs = [] := by
      rw [← List.length_eq_zero_iff, List.length_take_of_le h, List.length_eq_zero_iff]
    rw [Bool.eq_iff_iff]
    by_cases h0 : b.allowance = 0
    · simp [h0, htake]
    · simp [h0]
  rw [Gather.queued, show (b.extending es xs).stage = .active from ha, hring,
    show (b.extending es xs).suspended = b.suspended from rfl]
  cases b.suspended <;> by_cases hr : b.ring = [] <;> simp [hr]

/-- The first addition to a record of allowance 0 that had no waiting member and is not suspended appends it to its class
queue (R125). -/
theorem Gather.appends_extending (ha : b.stage = .active) (h : xs.length < es.length) :
    appends (b.extending es xs) (b.extending es (xs ++ [x])) = (b.joins (xs ++ [x]) && decide (xs = [])) := by
  have hold := Gather.queued_extending (b := b) ha (Nat.le_of_lt h)
  have hnew := Gather.queued_extending (b := b) (xs := xs ++ [x]) (es := es) ha (by simpa using h)
  have hcls : (b.extending es xs).cls = (b.extending es (xs ++ [x])).cls := rfl
  unfold appends keepsPlace Gather.joins
  rw [hold, hnew, decide_eq_true hcls]
  by_cases h0 : b.allowance = 0 <;> by_cases hr : b.ring = [] <;> cases b.suspended <;> simp [h0, hr]

/-- An addition never takes the record off its class queue. -/
theorem Gather.queued_extending_append (ha : b.stage = .active) (h : xs.length < es.length)
    (hq : (b.extending es xs).queued = true) : (b.extending es (xs ++ [x])).queued = true := by
  rw [Gather.queued_extending ha (Nat.le_of_lt h), decide_eq_true_eq] at hq
  rw [Gather.queued_extending ha (by simpa using h), decide_eq_true_eq]
  exact ⟨hq.1, fun hr => ⟨(hq.2 hr).1, by simp⟩⟩

/-- Later additions add nothing to whether the record joins its class queue. -/
theorem Gather.joins_append (b : Gather) (xs : List (Token × Nat)) (x : Token × Nat) :
    (b.joins xs || (b.joins (xs ++ [x]) && decide (xs = []))) = b.joins (xs ++ [x]) := by
  cases xs <;> simp [Gather.joins]

end

/-! ## One listed entry at a time -/

/-- The number of listed entries that the record `b`'s roster and the pool have room for (R51, R71). -/
def State.room (b : Gather) (s : State) : Nat := min (freeCount s.free) (256 - b.roster.length)

/-- A listed entry beyond that room makes a take that is refused: the pool was short of the roster's room, or both ended
together and the part tries the take on a full roster (R71, log 4). -/
def State.refusesBeyond (b : Gather) (s : State) : Bool :=
  decide (freeCount s.free < 256 - b.roster.length ∨
    (freeCount s.free = 256 - b.roster.length ∧ Config.listingTriesFullRoster = true))

/-- `s` with what the adding of the listed entries `xs` to the record `b` of slot `k` changes: the slots and the free list,
the class queue that the record joins, and POOL_LOW (R51, R71, R125). -/
def State.extending (k : Nat) (b : Gather) (xs : List (Token × Nat)) (refused : Bool) (slots : Table Slot)
    (free : List Run) (s : State) : State :=
  { s with
    slots := slots
    free := free
    ports := if b.joins xs = true then (s.enqueue b.port b.cls k).ports else s.ports
    attn := s.attnAfterTakes xs.length refused }

/-- What stands after the listed entries `ys`, each of another token and none of a member, have been tried for the record
`b` of slot `k`: those for which there was room have been added. -/
structure Adding.Extends (s : State) (k : Nat) (b : Gather) (ys : List (Token × Nat)) (a : Adding) : Prop where
  record : a.state.slot k = ⟨(s.slot k).generation, some (b.extending (freeEntries s.free) (ys.take (s.room b)))⟩
  others : ∀ j, j ≠ k → a.state.slot j = s.slot j
  free : freeEntries a.state.free = (freeEntries s.free).drop (ys.take (s.room b)).length
  frame : ∃ slots free, a.state = s.extending k b (ys.take (s.room b))
    (decide (s.room b < ys.length) && s.refusesBeyond b) slots free
  call : a.call = b.joins (ys.take (s.room b))
  accepted : a.accepted = (ys.take (s.room b)).length

section
variable {s : State} {k : Nat} {b : Gather} {a : Adding} {x : Token × Nat} {ys : List (Token × Nat)}

theorem State.room_le_length (b : Gather) (s : State) : s.room b ≤ (freeEntries s.free).length := by
  rw [← freeCount_eq_length]
  exact Nat.min_le_left _ _

theorem State.take_room_le (b : Gather) (s : State) (ys : List (Token × Nat)) :
    (ys.take (s.room b)).length ≤ (freeEntries s.free).length :=
  Nat.le_trans (List.length_take_le _ _) (s.room_le_length b)

/-- A listed entry whose token is on the roster is ignored (R51). -/
theorem Adding.Extends.skip (h : a.Extends s k b ys)
    (hx : x.1 ∈ b.roster.map Member.token ∨ x.1 ∈ (ys.take (s.room b)).map Prod.fst) : addListed k a x = a := by
  have hg : a.state.gather? k = some _ := congrArg Slot.body h.record
  unfold addListed
  rw [hg]
  dsimp only
  rw [if_pos ((Gather.byToken_extending (s.take_room_le b ys) _).2 hx)]

/-- A listed entry of a new token beyond the room is not added; all that may change is POOL_LOW, by a refused take (R71). -/
theorem addListed_beyond (h : a.Extends s k b ys) (hfull : s.room b ≤ ys.length)
    (hx : x.1 ∉ b.roster.map Member.token ∧ x.1 ∉ (ys.take (s.room b)).map Prod.fst) :
    addListed k a x = if s.refusesBeyond b = true then { a with state := a.state.refuseTake } else a := by
  have hg : a.state.gather? k = some _ := congrArg Slot.body h.record
  have htaken : (ys.take (s.room b)).length = s.room b := List.length_take_of_le hfull
  have hlength := Gather.extending_length (b := b) (s.take_room_le b ys)
  have hleft : freeCount a.state.free = freeCount s.free - s.room b := by
    rw [freeCount_eq_length, h.free, htaken, List.length_drop, freeCount_eq_length]
  unfold addListed
  rw [hg]
  dsimp only
  rw [if_neg fun hin => ((Gather.byToken_extending (s.take_room_le b ys) _).1 hin).elim hx.1 hx.2, hlength, htaken, hleft,
    show Config.rosterLimit = 256 from rfl]
  have hmin : s.room b = min (freeCount s.free) (256 - b.roster.length) := rfl
  by_cases hshort : freeCount s.free < 256 - b.roster.length
  · have hempty : freeEntries a.state.free = [] := by
      rw [← List.length_eq_zero_iff, ← freeCount_eq_length]
      omega
    have hrefuses : s.refusesBeyond b = true := by simp [State.refusesBeyond, hshort]
    rw [if_pos (by omega), hrefuses, if_pos rfl]
    rcases State.take_cases a.state with ⟨-, htk⟩ | ⟨e, rest, f, hcons, -, -⟩
    · rw [htk]
    · rw [hempty] at hcons
      cases hcons
  · rw [if_neg (by omega)]
    by_cases hboth : freeCount s.free = 256 - b.roster.length
    · have hnone : freeCount s.free - s.room b = 0 := by omega
      have hrefuses : s.refusesBeyond b = Config.listingTriesFullRoster := by simp [State.refusesBeyond, hboth]
      rw [hnone, hrefuses, decide_eq_true rfl, Bool.and_true]
    · have hsome : freeCount s.free - s.room b ≠ 0 := by omega
      have hrefuses : s.refusesBeyond b = false := by simp [State.refusesBeyond, hshort, hboth]
      simp [hsome, hrefuses]

/-- A listed entry beyond the room, tried after `ys` (R71): `ys'` are the tokens tried, which begin with `ys`. -/
theorem Adding.Extends.beyond (h : a.Extends s k b ys) (hfull : s.room b ≤ ys.length)
    (hx : x.1 ∉ b.roster.map Member.token ∧ x.1 ∉ (ys.take (s.room b)).map Prod.fst) {ys' : List (Token × Nat)}
    (htake : ys'.take (s.room b) = ys.take (s.room b)) (hmore : s.room b < ys'.length) :
    (addListed k a x).Extends s k b ys' := by
  obtain ⟨slots, free, hframe⟩ := h.frame
  rw [addListed_beyond h hfull hx]
  cases hrefuses : s.refusesBeyond b
  · rw [if_neg (by simp)]
    rw [hrefuses, Bool.and_false] at hframe
    exact {
      record := htake ▸ h.record
      others := h.others
      free := htake ▸ h.free
      frame := ⟨slots, free, by rw [htake, hrefuses, Bool.and_false]; exact hframe⟩
      call := htake ▸ h.call
      accepted := htake ▸ h.accepted }
  · rw [if_pos rfl]
    exact {
      record := htake ▸ h.record
      others := h.others
      free := htake ▸ h.free
      frame := ⟨slots, free, by
        show a.state.refuseTake = _
        rw [hframe, htake, hrefuses, decide_eq_true hmore]
        exact congrArg (fun w => ({ s.extending k b _ true slots free with attn := w } : State))
          (s.attnAfterTakes_refused _ _)⟩
      call := htake ▸ h.call
      accepted := htake ▸ h.accepted }

/-- One addition more: the first one may join the class queue, and a take may raise POOL_LOW. -/
theorem State.extending_append (s : State) (k : Nat) (b : Gather) (ys : List (Token × Nat)) (x : Token × Nat)
    (slots : Table Slot) (f : List Run) :
    (if (b.joins (ys ++ [x]) && decide (ys = [])) = true then
        State.enqueue b.port b.cls k { s.extending k b ys false slots f with attn := s.attnAfterTakes (ys.length + 1) false }
      else { s.extending k b ys false slots f with attn := s.attnAfterTakes (ys.length + 1) false }) =
      s.extending k b (ys ++ [x]) false slots f := by
  unfold State.extending
  cases ys with
  | nil =>
    by_cases hj : b.joins [x] = true <;>
      simp [hj, show b.joins [] = false by simp [Gather.joins], State.enqueue, State.setPort, State.port]
  | cons y ys => simp [show b.joins (y :: (ys ++ [x])) = b.joins (y :: ys) by simp [Gather.joins]]

/-- A listed entry of a new token is added while the roster and the pool have room (R51, R70, R72). -/
theorem Adding.Extends.add (h : a.Extends s k b ys) (ha : b.stage = .active) (hn : (freeEntries s.free).Nodup)
    (hroster : ∀ m ∈ b.roster, m.entry ∉ freeEntries s.free) (hring : ∀ i ∈ b.ring, i ∉ freeEntries s.free)
    (hx : x.1 ∉ b.roster.map Member.token ∧ x.1 ∉ ys.map Prod.fst) (hroom : ys.length < s.room b) :
    (addListed k a x).Extends s k b (ys ++ [x]) := by
  obtain ⟨hrecord, hothers, hfree, ⟨slots, free, hframe⟩, hcall, hcount⟩ := h
  rw [List.take_of_length_le (Nat.le_of_lt hroom)] at hrecord hfree hframe hcall hcount
  rw [decide_eq_false (Nat.not_lt.2 (Nat.le_of_lt hroom)), Bool.false_and] at hframe
  obtain ⟨u, call, count⟩ := a
  dsimp only at hrecord hothers hfree hframe hcall hcount
  subst hframe
  have hpool : ys.length < (freeEntries s.free).length := Nat.lt_of_lt_of_le hroom (s.room_le_length b)
  have hg : (s.extending k b ys false slots free).gather? k = some _ := congrArg Slot.body hrecord
  obtain ⟨e, rest, hd⟩ : ∃ e rest, (freeEntries s.free).drop ys.length = e :: rest :=
    ⟨_, _, List.drop_eq_getElem_cons hpool⟩
  obtain ⟨hnil, -⟩ | ⟨e', rest', f, hcons, hrest, htake⟩ := State.take_cases (s.extending k b ys false slots free)
  · rw [hfree, hd] at hnil; cases hnil
  rw [hfree, hd] at hcons
  obtain ⟨rfl, rfl⟩ := List.cons.inj hcons
  have hleft : freeCount s.free = ys.length + 1 + rest.length := by
    have := congrArg List.length hd
    rw [List.length_drop, List.length_cons] at this
    rw [freeCount_eq_length]
    omega
  have htaken : (s.extending k b ys false slots free).take =
      (some e, { s.extending k b ys false slots f with attn := s.attnAfterTakes (ys.length + 1) false }) :=
    htake.trans (congrArg (fun w => (some e, ({ s.extending k b ys false slots f with attn := w } : State)))
      (s.attnAfterTakes_succ hleft))
  have hlimit : (b.extending (freeEntries s.free) ys).roster.length < Config.rosterLimit := by
    rw [Gather.extending_length (Nat.le_of_lt hpool), show Config.rosterLimit = 256 from rfl]
    unfold State.room at hroom
    omega
  have hnew : ¬((b.extending (freeEntries s.free) ys).byToken x.1).isSome = true := fun hin =>
    ((Gather.byToken_extending (Nat.le_of_lt hpool) _).1 hin).elim hx.1 hx.2
  have hcls : (b.extending (freeEntries s.free) (ys ++ [x])).cls = (b.extending (freeEntries s.free) ys).cls := rfl
  have hstep : addListed k ⟨s.extending k b ys false slots free, call, count⟩ x =
      ⟨(s.extending k b (ys ++ [x]) false slots f).setGather k (b.extending (freeEntries s.free) (ys ++ [x])),
        call || (b.joins (ys ++ [x]) && decide (ys = [])), count + 1⟩ := by
    unfold addListed
    rw [hg]
    dsimp only
    rw [if_neg hnew, if_pos hlimit, htaken]
    dsimp only
    rw [Gather.addMember_extending ha hn hroster hring hd, State.putGather_joins _ k hcls
      (Gather.queued_extending_append ha hpool), Gather.appends_extending ha hpool, ← State.extending_append]
    rfl
  have hall : (ys ++ [x]).take (s.room b) = ys ++ [x] := List.take_of_length_le (by simpa using hroom)
  have hnone : decide (s.room b < (ys ++ [x]).length) = false := by simpa using hroom
  rw [hstep]
  refine ⟨?_, fun j hj => ?_, ?_, ?_, ?_, ?_⟩
  · rw [hall, State.slot_setGather, if_pos rfl]
    have hgen : ((s.extending k b (ys ++ [x]) false slots f).slot k).generation = (s.slot k).generation := by
      show ((s.extending k b ys false slots free).slot k).generation = _
      rw [hrecord]
    rw [hgen]
  · rw [State.slot_setGather, if_neg hj]
    exact hothers j hj
  · rw [hall, List.length_append, List.length_singleton, ← List.drop_drop, hd]
    exact hrest
  · rw [hall, hnone, Bool.false_and]
    exact ⟨_, f, rfl⟩
  · rw [hall, hcall]
    exact b.joins_append ys x
  · rw [hall, List.length_append, List.length_singleton, ← hcount]

/-! ## All listed entries -/

/-- The listed entries in list order: each is tried unless its token is a member's or was tried before (R51). -/
theorem Adding.Extends.addAll (ha : b.stage = .active) (hn : (freeEntries s.free).Nodup)
    (hroster : ∀ m ∈ b.roster, m.entry ∉ freeEntries s.free) (hring : ∀ i ∈ b.ring, i ∉ freeEntries s.free) :
    ∀ (l ys : List (Token × Nat)) (seen : List Token) (a : Adding), a.Extends s k b ys →
      (∀ t, t ∈ seen ↔ t ∈ b.roster.map Member.token ∨ t ∈ ys.map Prod.fst) →
      (l.foldl (addListed k) a).Extends s k b (ys ++ firstListed seen l) := by
  intro l
  induction l with
  | nil => exact fun ys seen a h _ => (List.append_nil ys).symm ▸ h
  | cons x l ih =>
    intro ys seen a h hseen
    rw [List.foldl_cons, firstListed]
    split
    next hold =>
      refine ih ys seen _ ?_ hseen
      by_cases hmember : x.1 ∈ b.roster.map Member.token ∨ x.1 ∈ (ys.take (s.room b)).map Prod.fst
      · rw [h.skip hmember]; exact h
      · have hshort : s.room b < ys.length := by
          by_contra hle
          rw [List.take_of_length_le (Nat.not_lt.1 hle)] at hmember
          exact hmember ((hseen _).1 hold)
        exact h.beyond (Nat.le_of_lt hshort) (not_or.1 hmember) rfl hshort
    next hnew =>
      have hfresh := not_or.1 fun hin => hnew ((hseen x.1).2 hin)
      rw [← List.singleton_append, ← List.append_assoc]
      refine ih (ys ++ [x]) (x.1 :: seen) _ ?_ fun t => by simp [hseen, or_comm, or_assoc]
      by_cases hroom : ys.length < s.room b
      · exact h.add ha hn hroster hring hfresh hroom
      · have hfull := Nat.not_lt.1 hroom
        refine h.beyond hfull ⟨hfresh.1, fun hin => hfresh.2 ?_⟩ (List.take_append_of_le_length hfull)
          (by simpa using Nat.lt_succ_of_le hfull)
        rw [List.map_take] at hin
        exact List.mem_of_mem_take hin

end

/-! ## The EXTEND -/

/-- What stands of the record, its announced count extended and its idle deadline re-armed, before any listed entry is
tried. -/
theorem Adding.extends_nil (s : State) (k : Nat) (b : Gather) :
    Adding.Extends s k b [] ⟨s.setGather k b, false, 0⟩ where
  record := by rw [State.slot_setGather, if_pos rfl, List.take_nil, b.extending_nil]
  others j hj := by rw [State.slot_setGather, if_neg hj]
  free := by simp
  frame := ⟨_, _, by
    simp only [List.take_nil, List.length_nil, State.extending, State.attnAfterTakes, Gather.joins]
    simp
    rfl⟩
  call := by simp [Gather.joins]
  accepted := by simp

/-- An EXTEND of an ACTIVE record is carried out on its slot (R17, R55). -/
theorem exec_extend_active {s : State} {q : List Word} {k : Nat} {g : Gather} (htake : s.MayTake q)
    (hkind : kindOf q = 2#4) (hacc : s.Accepts q) (hl : s.lookupGather (portOf q) (tagOf q) = some (k, g))
    (ha : g.stage = .active) : exec .extendQuery s = .next (s.popQuery.extendAt q k g) := by
  refine congrArg Host.Outcome.next ((State.takeQuery_accepts _ _ htake hacc (by simp [hkind])).trans ?_)
  unfold State.extendGather
  rw [State.popQuery_lookupGather, hl]
  dsimp only
  rw [ha]

/-- Settles O26: the EXTEND tries its listed entries one at a time, as `Adding.Extends` says. -/
theorem extendAddsListedEntries : Obligations.ExtendAddsListedEntries := by
  intro s q k g htake hkind hacc hl ha hn hroster hring p pf listed added members appended
  obtain ⟨-, hport, -⟩ := State.lookupGather_some hl
  have hlists := Adding.Extends.addAll (s := s.popQuery) (k := k)
    (b := ({ g with announced := extendedCount g.announced (announcedOf q) }).rearmIdle (s.popQuery.profileOf g.port)
      s.popQuery.timebase) ha hn hroster hring (listedOf q) [] (g.roster.map Member.token) _
    (Adding.extends_nil _ _ _) (fun t => by simp [Gather.rearmIdle])
  rw [List.nil_append] at hlists
  obtain ⟨hrecord, hothers, hpool, ⟨slots, free, hframe⟩, hcall, haccepted⟩ := hlists
  refine ⟨_, ?_, hothers, hpool, ⟨Config.listingTriesFullRoster, ?_⟩, ?_, ?_⟩
  · rw [hrecord, Gather.rearmIdle_eq, hport]
    rfl
  · have hbeyond : s.room g < listed.length ↔ added.length < listed.length := by
      rw [show added.length = min (s.room g) listed.length from List.length_take]
      omega
    rw [hframe]
    refine congrArg (s.attnAfterTakes added.length) (Bool.eq_iff_iff.2 ?_)
    rw [Bool.and_eq_true, decide_eq_true_eq, decide_eq_true_eq]
    exact and_congr hbeyond decide_eq_true_iff
  · rw [hframe, hport]
    rfl
  · rw [exec_extend_active htake hkind hacc hl ha]
    unfold State.extendAt State.addAll
    dsimp only
    rw [hcall, haccepted, State.answerGrant, hkind, hport]
    rfl

end Sys2Proof.Machine


/-! Reads of TABLE_WINDOW and of the registers: the table word that TABLE_SELECT names, and each word as the sum of its
fields in their bits (R42, R74, R118, R124, R148, R172 to R178). -/

namespace Sys2Proof.Machine

/-! ## A word as the sum of its fields -/

/-- The word `w`, whose fields so far lie at bit `lo` and above, is the number `n`. -/
structure Layout (w : Word) (lo n : Nat) : Prop where
  bound : lo ≤ 32
  number : w.toNat = n
  below : 2 ^ lo ∣ n

section
variable {w : Word} {lo' n width x : Nat}

theorem layout_place (lo : Nat) (v : BitVec width) (h : lo + width ≤ 32 := by decide) :
    Layout (place lo v) lo (v.toNat * 2 ^ lo) :=
  ⟨by omega, place_toNat v h, Nat.dvd_mul_left ..⟩

theorem layout_placeNat (lo width : Nat) (hx : x < 2 ^ width) (h : lo + width ≤ 32 := by decide) :
    Layout (placeNat lo width x) lo (x * 2 ^ lo) := by
  have hp := layout_place lo (BitVec.ofNat width x) h
  rwa [BitVec.toNat_ofNat, Nat.mod_eq_of_lt hx] at hp

theorem layout_placeBit (i : Nat) (b : Bool) (h : i + 1 ≤ 32 := by decide) :
    Layout (placeBit i b) i (b.toNat * 2 ^ i) := by
  have hp := layout_place i (BitVec.ofBool b) h
  rwa [BitVec.toNat_ofBool] at hp

/-- A field placed below the fields so far adds its value at its place. -/
theorem Layout.place (hw : Layout w lo' n) (lo : Nat) (v : BitVec width) (h : lo + width ≤ lo' := by decide) :
    Layout (w ||| Machine.place lo v) lo (n + v.toNat * 2 ^ lo) := by
  obtain ⟨hbound, rfl, c, hc⟩ := hw
  have hv : v.toNat * 2 ^ lo < 2 ^ lo' := calc
    v.toNat * 2 ^ lo < 2 ^ width * 2 ^ lo := Nat.mul_lt_mul_of_pos_right v.isLt (Nat.two_pow_pos lo)
    _ = 2 ^ (width + lo) := (Nat.pow_add ..).symm
    _ ≤ 2 ^ lo' := Nat.pow_le_pow_right (by decide) (by omega)
  refine ⟨by omega, ?_, Nat.dvd_add ?_ (Nat.dvd_mul_left ..)⟩
  · rw [BitVec.toNat_or, place_toNat v (by omega), hc, Nat.mul_comm, ← Nat.shiftLeft_eq,
      Nat.shiftLeft_add_eq_or_of_lt hv]
  · exact hc ▸ Nat.dvd_mul_right_of_dvd (Nat.pow_dvd_pow 2 (by omega)) c

theorem Layout.placeNat (hw : Layout w lo' n) (lo width : Nat) (hx : x < 2 ^ width)
    (h : lo + width ≤ lo' := by decide) : Layout (w ||| Machine.placeNat lo width x) lo (n + x * 2 ^ lo) := by
  have hp := hw.place lo (BitVec.ofNat width x) h
  rwa [BitVec.toNat_ofNat, Nat.mod_eq_of_lt hx] at hp

theorem Layout.placeBit (hw : Layout w lo' n) (i : Nat) (b : Bool) (h : i + 1 ≤ lo' := by decide) :
    Layout (w ||| Machine.placeBit i b) i (n + b.toNat * 2 ^ i) := by
  have hp := hw.place i (BitVec.ofBool b) h
  rwa [BitVec.toNat_ofBool] at hp

end

/-! ## PORT words -/

/-- The classes 1 to `n` of which `p` holds, class c at bit c − 1. -/
def classBits (p : Nat → Bool) (n : Nat) : BitVec 7 :=
  ((List.range' 1 n).filter p).foldl (fun w c => w ||| (1#7 <<< (c - 1))) 0#7

theorem classBits_succ (p : Nat → Bool) (n : Nat) :
    classBits p (n + 1) = if p (n + 1) = true then classBits p n ||| (1#7 <<< n) else classBits p n := by
  unfold classBits
  rw [List.range'_concat, List.filter_append, List.foldl_append]
  by_cases hp : p (n + 1) = true <;> simp [hp, Nat.add_comm]

theorem classBits_toNat (p : Nat → Bool) : ∀ n, n ≤ 7 → (classBits p n).toNat < 2 ^ n ∧
    (classBits p n).toNat = ((List.range n).map fun c => if p (c + 1) = true then 2 ^ c else 0).sum
  | 0, _ => by simp [classBits]
  | n + 1, hn => by
    obtain ⟨hlt, hsum⟩ := classBits_toNat p n (by omega)
    have hpow : 2 ^ n < 2 ^ 7 := Nat.pow_lt_pow_right (by decide) (by omega)
    have hdouble : 2 ^ (n + 1) = 2 ^ n + 2 ^ n := by omega
    have hone : (1#7 <<< n).toNat = 1 <<< n := by
      rw [BitVec.toNat_shiftLeft, Nat.mod_eq_of_lt]
      · rfl
      · rwa [Nat.shiftLeft_eq, show (1#7 : BitVec 7).toNat = 1 from rfl, Nat.one_mul]
    have hnext : (classBits p (n + 1)).toNat = (classBits p n).toNat + if p (n + 1) = true then 2 ^ n else 0 := by
      rw [classBits_succ]
      split
      · rw [BitVec.toNat_or, hone, Nat.or_comm, ← Nat.shiftLeft_add_eq_or_of_lt hlt, Nat.shiftLeft_eq]
        omega
      · rfl
    rw [hnext]
    refine ⟨by split <;> omega, ?_⟩
    rw [List.range_succ, List.map_append, List.sum_append, hsum]
    simp

/-- The bit of a class in PORT word 3 (R124). -/
def Port.pendingValue (pt : Port) (c : Nat) : Nat := if pt.queue c = [] then 0 else 2 ^ (16 + c)

section
variable (pt : Port)

theorem Port.pendingValue_eq (c : Nat) :
    (if (!(pt.queue (c + 1)).isEmpty) = true then 2 ^ c else 0) * 2 ^ 17 = pt.pendingValue (c + 1) := by
  unfold Port.pendingValue
  cases pt.queue (c + 1) with
  | nil => exact Nat.zero_mul _
  | cons k ks => exact (Nat.pow_add 2 c 17).symm.trans (congrArg (2 ^ ·) (by omega))

theorem Port.pendingBits_toNat : pt.pendingBits.toNat * 2 ^ 17 =
    pt.pendingValue 7 + pt.pendingValue 6 + pt.pendingValue 5 + pt.pendingValue 4 + pt.pendingValue 3 +
      pt.pendingValue 2 + pt.pendingValue 1 := by
  have hbits : pt.pendingBits = classBits (fun c => !(pt.queue c).isEmpty) 7 := rfl
  rw [hbits, (classBits_toNat _ 7 (Nat.le_refl 7)).2, ← List.sum_map_mul_right]
  simp only [Port.pendingValue_eq]
  simp only [List.range_succ, List.range_zero, List.map_append, List.sum_append]
  simp
  omega

theorem Port.word_zero : (pt.word 0).toNat = pt.enabled.toNat * 2 ^ 31 + pt.profile.toNat :=
  ((layout_placeBit 31 pt.enabled).place 0 pt.profile).number.trans (by omega)

theorem Port.word_one : (pt.word 1).toNat = pt.adminFloor.toNat :=
  (layout_place 0 pt.adminFloor).number.trans (by omega)

theorem Port.word_two (hflight : pt.flight < 2 ^ 14) (hfloor : pt.effFloor < 8) : (pt.word 2).toNat =
    pt.flight * 2 ^ 16 + pt.effFloor * 2 ^ 8 + pt.atCeiling.toNat * 16 + pt.atFloor.toNat * 8 + pt.stale.toNat * 4 +
      pt.mode.level := by
  have hmode : pt.mode.code.toNat = pt.mode.level := by cases pt.mode <;> rfl
  rw [← hmode]
  exact ((((((layout_placeNat 16 14 hflight).placeNat 8 3 hfloor).placeBit 4 pt.atCeiling).placeBit 3
    pt.atFloor).placeBit 2 pt.stale).place 0 pt.mode.code).number.trans (by omega)

theorem Port.word_three (hout : pt.outstanding < 2 ^ 16) : (pt.word 3).toNat = pt.blocked.toNat * 2 ^ 31 +
    pt.pendingValue 7 + pt.pendingValue 6 + pt.pendingValue 5 + pt.pendingValue 4 + pt.pendingValue 3 +
      pt.pendingValue 2 + pt.pendingValue 1 + pt.outstanding := by
  refine (((layout_placeBit 31 pt.blocked).place 17 pt.pendingBits).placeNat 0 16 hout).number.trans ?_
  rw [pt.pendingBits_toNat]
  omega

end

/-! ## GATHER words -/

section
variable {x : Slot} {g : Gather}

theorem Slot.word_vacant (h : x.body = none) (w : Nat) :
    (x.word w).toNat = if w = 0 then x.generation.toNat * 2 ^ 16 else 0 := by
  unfold Slot.word
  rw [h]
  split
  · exact (congrArg BitVec.toNat BitVec.or_zero).trans (place_toNat x.generation (by decide))
  · exact congrArg BitVec.toNat BitVec.or_zero

theorem Gather.word_zero (hcls : g.cls < 8) : (g.word 0).toNat =
    g.cls * 2 ^ 12 + g.stage.outcomeCode.toNat * 2 ^ 8 + g.suspended.toNat * 16 + g.stage.code.toNat :=
  ((((layout_placeNat 12 3 hcls).place 8 g.stage.outcomeCode).placeBit 4 g.suspended).place 0
    g.stage.code).number.trans (by omega)

theorem Slot.word_zero (h : x.body = some g) (hcls : g.cls < 8) : (x.word 0).toNat = x.generation.toNat * 2 ^ 16 +
    g.cls * 2 ^ 12 + g.stage.outcomeCode.toNat * 2 ^ 8 + g.suspended.toNat * 16 + g.stage.code.toNat := by
  have hword := Gather.word_zero hcls
  have hlow : (g.word 0).toNat < 2 ^ 16 := by
    have := g.stage.outcomeCode.isLt
    have := g.stage.code.isLt
    have := g.suspended.toNat_le
    omega
  have hslot : x.word 0 = place 16 x.generation ||| g.word 0 := by simp [Slot.word, h]
  rw [hslot, place_or_toNat x.generation (by decide) hlow, hword]
  omega

/-- The words 1 to 5 of a record do not hold the slot's generation. -/
theorem Slot.word_succ (h : x.body = some g) (w : Nat) : x.word (w + 1) = g.word (w + 1) := by
  unfold Slot.word
  rw [h, if_neg (Nat.succ_ne_zero w)]
  exact BitVec.zero_or

theorem Gather.word_one (hport : g.port < 256) : (g.word 1).toNat = g.port * 2 ^ 16 + g.tag.toNat :=
  ((layout_placeNat 16 8 hport).place 0 g.tag).number.trans (by omega)

theorem Gather.word_two (ha : g.allowance < 256) (hsize : g.roster.length < 512) (hn : g.announced < 4096) :
    (g.word 2).toNat = g.allowance * 2 ^ 24 + g.roster.length * 2 ^ 15 + g.announced :=
  (((layout_placeNat 24 8 ha).placeNat 15 9 hsize).placeNat 0 12 hn).number.trans (by omega)

end

/-! ## ROSTER words -/

section
variable {m : Member}

theorem Member.word_zero (m : Member) :
    (m.word 0).toNat = m.announced.toNat * 2 ^ 31 + m.phase.code.toNat * 2 ^ 24 + m.token.toNat :=
  (((layout_placeBit 31 m.announced).place 24 m.phase.code).place 0 m.token).number.trans (by omega)

theorem Member.word_one (ht : m.trims < 256) (ho : m.openLeft < 256) (he : ∀ e, m.expected = some e → e < 2 ^ 16) :
    (m.word 1).toNat = m.trims * 2 ^ 24 + m.openLeft * 2 ^ 16 + m.expected.getD 0 := by
  have hx : m.expected.getD 0 < 2 ^ 16 := by
    cases h : m.expected with
    | none => decide
    | some e => exact he e h
  exact (((layout_placeNat 24 8 ht).placeNat 16 8 ho).placeNat 0 16 hx).number.trans (by omega)

theorem Member.word_two (hd : m.drawOut < 512) (hl : m.lapses < 8) (hq : m.drawQueued < 256) :
    (m.word 2).toNat = m.drawOut * 2 ^ 16 + m.lapses * 2 ^ 12 + m.drawQueued :=
  (((layout_placeNat 16 9 hd).placeNat 12 3 hl).placeNat 0 8 hq).number.trans (by omega)

theorem Member.word_three (hp : m.passed < 2 ^ 24) : (m.word 3).toNat = m.passed :=
  (layout_placeNat 0 24 hp).number.trans (by omega)

end

/-! ## EXEMPT and METER words -/

theorem Window.word_zero (x : Window) :
    (x.word 0).toNat = x.enabled.toNat * 2 ^ 31 + x.scopeAny.toNat * 2 ^ 30 + x.scopePort.toNat :=
  (((layout_placeBit 31 x.enabled).placeBit 30 x.scopeAny).place 0 x.scopePort).number.trans (by omega)

theorem Window.word_one (x : Window) : (x.word 1).toNat = x.base.toNat :=
  (layout_place 0 x.base).number.trans (by omega)

theorem Window.word_two (x : Window) : (x.word 2).toNat = x.mask.toNat :=
  (layout_place 0 x.mask).number.trans (by omega)

theorem place_lowPart (v : BitVec 40) : (place 0 (v.extractLsb' 0 32)).toNat = v.toNat % 2 ^ 32 := by
  rw [place_toNat _ (by decide), BitVec.extractLsb'_toNat, Nat.shiftRight_zero, Nat.pow_zero, Nat.mul_one]

theorem place_highPart (v : BitVec 40) : (place 0 (v.extractLsb' 32 8)).toNat = v.toNat / 2 ^ 32 := by
  have := v.isLt
  rw [place_toNat _ (by decide), BitVec.extractLsb'_toNat, Nat.shiftRight_eq_div_pow, Nat.pow_zero, Nat.mul_one]
  exact Nat.mod_eq_of_lt (by omega)

theorem Meter.word_zero (m : Meter) : (m.word 0).toNat = m.overflowAttention.toNat * 2 ^ 28 +
    m.reloadControl.code.toNat * 2 ^ 24 + m.disableSource.code.toNat * 2 ^ 20 + m.enableSource.code.toNat * 2 ^ 16 +
      m.event.code.toNat * 2 ^ 8 + m.port.toNat :=
  ((((((layout_placeBit 28 m.overflowAttention).place 24 m.reloadControl.code).place 20 m.disableSource.code).place 16
    m.enableSource.code).place 8 m.event.code).place 0 m.port).number.trans (by omega)

theorem Meter.word_five (m : Meter) : (m.word 5).toNat = m.counting.toNat * 2 + m.overflowed.toNat :=
  ((layout_placeBit 1 m.counting).placeBit 0 m.overflowed).number.trans (by omega)

/-! ## The selected table word -/

section
variable {sel : TableSelect}

theorem TableSelect.target_profile_eq (h : sel.table.toNat = 0) : sel.target =
    if sel.entry.toNat < 8 ∧ sel.word.toNat ≤ 12 then .profile sel.entry.toNat sel.word.toNat else .absent := by
  unfold TableSelect.target
  rw [h]
  rfl

theorem TableSelect.target_port_eq (h : sel.table.toNat = 1) : sel.target =
    if sel.entry.toNat < 48 ∧ sel.word.toNat ≤ 3 then .port sel.entry.toNat sel.word.toNat else .absent := by
  unfold TableSelect.target
  rw [h]
  rfl

theorem TableSelect.target_gather_eq (h : sel.table.toNat = 2) : sel.target =
    if sel.entry.toNat < 8192 ∧ sel.word.toNat ≤ 5 then .gather sel.entry.toNat sel.word.toNat else .absent := by
  unfold TableSelect.target
  rw [h]
  rfl

theorem TableSelect.target_roster_eq (h : sel.table.toNat = 3) : sel.target = if sel.word.toNat ≤ 4 then
    .roster (sel.entry.toNat / 256) (sel.entry.toNat % 256) sel.word.toNat else .absent := by
  unfold TableSelect.target
  rw [h]
  rfl

theorem TableSelect.target_exempt_eq (h : sel.table.toNat = 4) : sel.target =
    if sel.entry.toNat < 8 ∧ sel.word.toNat ≤ 2 then .exempt sel.entry.toNat sel.word.toNat else .absent := by
  unfold TableSelect.target
  rw [h]
  rfl

theorem TableSelect.target_meter_eq (h : sel.table.toNat = 5) : sel.target =
    if sel.entry.toNat < 16 ∧ sel.word.toNat ≤ 5 then .meter sel.entry.toNat sel.word.toNat else .absent := by
  unfold TableSelect.target
  rw [h]
  rfl

theorem TableSelect.target_noTable (h : 6 ≤ sel.table.toNat) : sel.target = .absent := by
  obtain h | h : sel.table.toNat = 6 ∨ sel.table.toNat = 7 := by
    have := sel.table.isLt
    omega
  all_goals
    unfold TableSelect.target
    rw [h]
    rfl

/-- A selection beyond the tables, beyond the entries of its table or beyond an entry's last word (R174). -/
theorem TableSelect.target_beyond (sel : TableSelect) (h : 6 ≤ sel.table.toNat ∨
    sel.table.toNat = 0 ∧ (8 ≤ sel.entry.toNat ∨ 12 < sel.word.toNat) ∨
    sel.table.toNat = 1 ∧ (48 ≤ sel.entry.toNat ∨ 3 < sel.word.toNat) ∨
    sel.table.toNat = 2 ∧ (8192 ≤ sel.entry.toNat ∨ 5 < sel.word.toNat) ∨
    sel.table.toNat = 3 ∧ (2097152 ≤ sel.entry.toNat ∨ 4 < sel.word.toNat) ∨
    sel.table.toNat = 4 ∧ (8 ≤ sel.entry.toNat ∨ 2 < sel.word.toNat) ∨
    sel.table.toNat = 5 ∧ (16 ≤ sel.entry.toNat ∨ 5 < sel.word.toNat)) : sel.target = .absent := by
  have hentry := sel.entry.isLt
  obtain h | ⟨ht, h⟩ | ⟨ht, h⟩ | ⟨ht, h⟩ | ⟨ht, h⟩ | ⟨ht, h⟩ | ⟨ht, h⟩ := h
  · exact TableSelect.target_noTable h
  · rw [TableSelect.target_profile_eq ht, if_neg (by omega)]
  · rw [TableSelect.target_port_eq ht, if_neg (by omega)]
  · rw [TableSelect.target_gather_eq ht, if_neg (by omega)]
  · rw [TableSelect.target_roster_eq ht, if_neg (by omega)]
  · rw [TableSelect.target_exempt_eq ht, if_neg (by omega)]
  · rw [TableSelect.target_meter_eq ht, if_neg (by omega)]

end

/-! ## What a read of a table word gives -/

/-- Where TABLE_SELECT holds these fields, the selected word is the number `value`. -/
def State.Reads (s : State) (table entry word value : Nat) : Prop :=
  ∀ sel : TableSelect, sel.table.toNat = table → sel.entry.toNat = entry → sel.word.toNat = word →
    (s.tableWord sel.target).toNat = value

section
variable {s : State} {i k w value : Nat}

theorem State.reads_profile (hi : i < 8) (hw : w ≤ 12) : s.Reads 0 i w ((s.profileAt i).word w).toNat := by
  rintro sel htable rfl rfl
  rw [TableSelect.target_profile_eq htable, if_pos ⟨hi, hw⟩]
  rfl

theorem State.reads_port (hi : i < 48) (hw : w ≤ 3) (h : ((s.port i).word w).toNat = value) : s.Reads 1 i w value := by
  rintro sel htable rfl rfl
  rw [TableSelect.target_port_eq htable, if_pos ⟨hi, hw⟩]
  exact h

theorem State.reads_gather (hk : k < 8192) (hw : w ≤ 5) (h : ((s.slot k).word w).toNat = value) :
    s.Reads 2 k w value := by
  rintro sel htable rfl rfl
  rw [TableSelect.target_gather_eq htable, if_pos ⟨hk, hw⟩]
  exact h

theorem State.reads_roster_eq (hi : i < 256) (hw : w ≤ 4) (h : (s.tableWord (.roster k i w)).toNat = value) :
    s.Reads 3 (k * 256 + i) w value := by
  rintro sel htable hentry rfl
  have hslot : (k * 256 + i) / 256 = k := by omega
  have hposition : (k * 256 + i) % 256 = i := by omega
  rw [TableSelect.target_roster_eq htable, if_pos hw, hentry, hslot, hposition]
  exact h

/-- The words of a roster position that holds a member (R74). -/
theorem State.reads_roster {g : Gather} {m : Member} (hi : i < 256) (hw : w ≤ 4) (hg : s.gather? k = some g)
    (hm : g.roster[i]? = some m) (h : (m.word w).toNat = value) : s.Reads 3 (k * 256 + i) w value := by
  refine State.reads_roster_eq hi hw ?_
  have hat : s.memberAt k i = some m := by
    unfold State.memberAt
    rw [hg]
    exact hm
  show (match s.memberAt k i with | none => 0#32 | some m => m.word w).toNat = _
  rw [hat]
  exact h

/-- A position at or beyond the roster's size, or in a FREE slot, reads as 0 (R74). -/
theorem State.reads_roster_none (hi : i < 256) (hw : w ≤ 4)
    (h : ∀ g, s.gather? k = some g → g.roster.length ≤ i) : s.Reads 3 (k * 256 + i) w 0 := by
  refine State.reads_roster_eq hi hw ?_
  have hat : s.memberAt k i = none := by
    unfold State.memberAt
    cases hg : s.gather? k with
    | none => rfl
    | some g => exact List.getElem?_eq_none (h g hg)
  show (match s.memberAt k i with | none => 0#32 | some m => m.word w).toNat = _
  rw [hat]
  rfl

theorem State.reads_exempt (hi : i < 8) (hw : w ≤ 2) (h : ((s.window i).word w).toNat = value) :
    s.Reads 4 i w value := by
  rintro sel htable rfl rfl
  rw [TableSelect.target_exempt_eq htable, if_pos ⟨hi, hw⟩]
  exact h

theorem State.reads_meter (hi : i < 16) (hw : w ≤ 5) (h : ((s.meter i).word w).toNat = value) :
    s.Reads 5 i w value := by
  rintro sel htable rfl rfl
  rw [TableSelect.target_meter_eq htable, if_pos ⟨hi, hw⟩]
  exact h

end

/-! ## The two reads and the registers -/

theorem exec_tableWindowRead {s : State} (h : ∀ p, s.select.target ≠ .port p 2) :
    exec .tableWindowRead s = .next s.readWindow := by
  show execTableWindowRead s = _
  unfold execTableWindowRead
  split
  next p hp => exact absurd hp (h p)
  next => rfl

theorem exec_portStatusRead {s : State} {p : Nat} (h : s.select.target = .port p 2) : exec .portStatusRead s =
    .next (s.readWindow.setPort p { s.port p with atFloor := false, atCeiling := false }) := by
  show execPortStatusRead s = _
  unfold execPortStatusRead
  rw [h]
  rfl

theorem CommandResult.word_toNat (r : CommandResult) :
    r.word.toNat = r.sequence.toNat * 2 ^ 24 + r.code.toNat * 2 ^ 16 + r.result.code.toNat :=
  (((layout_place 24 r.sequence).place 16 r.code).place 0 r.result.code).number.trans (by omega)

theorem TableSelect.toWord_toNat (sel : TableSelect) :
    sel.toWord.toNat = sel.table.toNat * 2 ^ 29 + sel.entry.toNat * 2 ^ 8 + sel.word.toNat :=
  (((layout_place 29 sel.table).place 8 sel.entry).place 0 sel.word).number.trans (by omega)

theorem State.readRegister_reserved (s : State) {i : BitVec 4} (h : 8#4 ≤ i) : s.readRegister i = 0#32 := by
  have hi : 8 ≤ i.toNat := h
  unfold State.readRegister
  split
  case h_8 => rfl
  all_goals omega

/-- Settles O58: each word is the sum of its fields, and the selected word is found by TABLE_SELECT's three fields. -/
theorem tableReads : Obligations.TableReads := by
  refine ⟨fun s h => exec_tableWindowRead h, fun s p h hflight hfloor => ⟨_, (s.port p).word_two hflight hfloor, ?_⟩,
    fun sel => ?_, fun s sel => ?_, fun s => ?_, fun s => ?_⟩
  · rw [exec_portStatusRead h]
    unfold State.readWindow
    rw [h]
    rfl
  · intro table entry word
    exact ⟨fun ht he hw => by rw [TableSelect.target_profile_eq ht, if_pos ⟨he, hw⟩],
      fun ht he hw => by rw [TableSelect.target_port_eq ht, if_pos ⟨he, hw⟩],
      fun ht he hw => by rw [TableSelect.target_gather_eq ht, if_pos ⟨he, hw⟩],
      fun ht hw => by rw [TableSelect.target_roster_eq ht, if_pos hw],
      fun ht he hw => by rw [TableSelect.target_exempt_eq ht, if_pos ⟨he, hw⟩],
      fun ht he hw => by rw [TableSelect.target_meter_eq ht, if_pos ⟨he, hw⟩]⟩
  · intro entry word beyond h
    have habsent : sel.target = .absent := sel.target_beyond h
    exact ⟨habsent, by rw [habsent]; rfl⟩
  · intro reads point
    have hpoint : ∀ d, (deadlineWord d).toNat = point d := fun d => by cases d <;> rfl
    refine ⟨fun n w => State.reads_profile, fun p hp hout => ?_, fun k w hk hw hg => ?_,
      fun k g hk hg hcls hport ha hsize hn => ?_, fun k i w _ hi hw hnone => State.reads_roster_none hi hw hnone,
      fun k i g m _ hi hg hm ht ho hd hl hq hp he => ?_, fun i hi => ?_, fun i hi => ?_⟩
    · exact ⟨State.reads_port hp (by decide) (Port.word_zero _), State.reads_port hp (by decide) (Port.word_one _),
        State.reads_port hp (by decide) (Port.word_three _ hout)⟩
    · exact State.reads_gather hk hw (Slot.word_vacant hg w)
    · intro outcome
      have houtcome : g.stage.outcomeCode.toNat = outcome := by
        simp only [outcome]
        rcases g.stage with _ | _ | _ <;> rfl
      have hstage : g.stage.code.toNat = if g.stage = .active then 1 else 2 := by
        rcases g.stage with _ | _ <;> rfl
      refine ⟨State.reads_gather hk (by decide) ?_, State.reads_gather hk (by decide) ?_,
        State.reads_gather hk (by decide) ?_, State.reads_gather hk (by decide) ?_,
        State.reads_gather hk (by decide) ?_, State.reads_gather hk (by decide) ?_⟩
      · rw [Slot.word_zero hg hcls, houtcome, hstage]
      · rw [Slot.word_succ hg, Gather.word_one hport]
      · rw [Slot.word_succ hg, Gather.word_two ha hsize hn]
      · rw [Slot.word_succ hg]; exact hpoint g.idle
      · rw [Slot.word_succ hg]; exact hpoint g.lifetime
      · rw [Slot.word_succ hg]; exact hpoint g.lingerAt
    · intro phase
      have hphase : m.phase.code.toNat = phase := by
        simp only [phase]
        cases m.phase <;> rfl
      refine ⟨State.reads_roster hi (by decide) hg hm ?_, State.reads_roster hi (by decide) hg hm (Member.word_one ht ho he),
        State.reads_roster hi (by decide) hg hm (Member.word_two hd hl hq),
        State.reads_roster hi (by decide) hg hm (Member.word_three hp),
        State.reads_roster hi (by decide) hg hm (hpoint m.drawDeadline)⟩
      rw [Member.word_zero, hphase]
    · exact ⟨State.reads_exempt hi (by decide) (Window.word_zero _), State.reads_exempt hi (by decide) (Window.word_one _),
        State.reads_exempt hi (by decide) (Window.word_two _)⟩
    · intro m reload disable enable event
      have hreload : m.reloadControl.code.toNat = reload := by
        simp only [reload]
        cases m.reloadControl <;> rfl
      have hdisable : m.disableSource.code.toNat = disable := by
        simp only [disable]
        cases m.disableSource <;> rfl
      have henable : m.enableSource.code.toNat = enable := by
        simp only [enable]
        cases m.enableSource <;> rfl
      have hevent : m.event.code.toNat = event := by
        simp only [event]
        cases m.event <;> rfl
      refine ⟨State.reads_meter hi (by decide) ?_, State.reads_meter hi (by decide) (place_lowPart _),
        State.reads_meter hi (by decide) (place_highPart _), State.reads_meter hi (by decide) (place_lowPart _),
        State.reads_meter hi (by decide) (place_highPart _), State.reads_meter hi (by decide) (Meter.word_five _)⟩
      rw [Meter.word_zero, ← hreload, ← hdisable, ← henable, ← hevent]
  · intro code
    have hcode : s.result.result.code.toNat = code := by
      simp only [code]
      cases s.result.result <;> rfl
    refine ⟨rfl, rfl, ?_, s.select.toWord_toNat, ?_, ?_, fun hmark => ?_, fun i => s.readRegister_reserved⟩
    · rw [← hcode]
      exact s.result.word_toNat
    · exact (layout_place 0 s.attn).number.trans (Nat.mul_one _)
    · exact (layout_place 0 s.attnEnable).number.trans (Nat.mul_one _)
    · exact (layout_placeNat 0 17 (Nat.lt_of_le_of_lt hmark (by decide))).number.trans (Nat.mul_one _)

end Sys2Proof.Machine


/-! The roster's members one by one: when a member wants more and what its re-evaluation does (R86, R87), and the arrivals
by the phase of their member (R78 to R83). -/

namespace Sys2Proof.Machine

/-! ## Re-evaluation -/

/-- Settles O36: the member stands once on the roster, so the change of its phase is made in its place. -/
theorem wantingMoreAndReevaluation : Obligations.WantingMoreAndReevaluation := by
  intro pf m mark wants
  have hwants : m.wantsMore pf = true ↔ wants := by
    rw [Member.wantsMore_iff]
    cases he : m.expected <;> simp [wants, mark, Profile.refillMark, he]
  refine ⟨hwants, fun g before behind ha hr hn => ?_⟩
  have hfind : g.member? m.entry = some m := by
    rw [hr] at hn
    rw [Gather.member?, hr]
    exact find_entry before behind m hn
  have hput : ∀ ph, g.setMember { m with phase := ph } =
      { g with roster := before ++ { m with phase := ph } :: behind } := fun ph => by
    rw [hr] at hn
    rw [Gather.setMember, hr, replace_entry before behind m { m with phase := ph } rfl hn]
  refine ⟨fun h => Gather.reevaluate_none pf _ g m hfind (by tauto), fun hoff hw => ?_, fun hoff hf hl hw => ?_⟩
  · obtain ⟨hf, hl, -⟩ := id hw
    rw [Gather.reevaluate_off pf _ g m hfind ha hf hl hoff, if_pos (hwants.2 hw), hput]
  · rw [Gather.reevaluate_off pf _ g m hfind ha hf hl hoff, if_neg (mt hwants.1 hw), hput]

/-! ## Arrivals by the phase of their member -/

/-- The mode decides between PASS and MARK (R79). -/
theorem Mode.passOrMark_eq (mode : Mode) :
    mode.passOrMark = if mode = .calm ∨ mode = .fill then Verdict.pass else .mark := by cases mode <;> rfl

section
variable (pf : Profile) (now : Time) (mode : Mode) (c : Nat) (last : Bool) (g : Gather) {m : Member}

theorem Gather.handle_of_live (h : m.phase = .opening ∨ m.phase = .waiting ∨ m.phase = .drawn) :
    g.handle pf now mode c last m = g.chargeOrTrim pf now mode c last m := by
  rcases h with h | h | h <;> simp only [Gather.handle, h]

theorem Gather.handle_of_finished (h : m.phase = .finished) :
    g.handle pf now mode c last m = g.handleFinished mode c m := by simp only [Gather.handle, h]

theorem Gather.handle_of_lapsed (h : m.phase = .lapsed) :
    g.handle pf now mode c last m = g.handleLapsed pf mode c last m := by simp only [Gather.handle, h]

/-- A charge within the allowance leaves no draw-out exactly where it takes all of it (R78). -/
theorem Member.charge_spends (hc : c ≤ m.openLeft + m.drawOut) :
    m.drawOut - m.fromDraws c = 0 ↔ m.drawOut = m.fromDraws c := by
  unfold Member.fromDraws
  omega

end

/-- Settles O34: the handling charges the member, and finishes it where the last flag is set. -/
theorem chargedArrivalAndFinish : Obligations.ChargedArrivalAndFinish := by
  intro pf now mode c last m g hphase hc x1 x2 life m' verdict
  have hverdict : mode.passOrMark = verdict := mode.passOrMark_eq
  have hcharge : m.charge pf now c = m' := by
    simp only [Member.charge, m.charge_spends c hc]
    rfl
  have hreturn : x2 + (m.drawQueued + (m.drawOut - x2)) = m.drawQueued + m.drawOut := by omega
  rw [Gather.handle_of_live pf now mode c last g hphase, Gather.chargeOrTrim, if_pos hc, hcharge, hverdict]
  constructor
  · rintro rfl
    rfl
  · rintro rfl
    rw [← hreturn]
    rfl

/-- Settles O35: one handling for each phase, by the cells and the last flag. -/
theorem trimmedAndLapsedArrivals : Obligations.TrimmedAndLapsedArrivals := by
  intro pf now mode c last m g verdict trims
  have hverdict : mode.passOrMark = verdict := mode.passOrMark_eq
  refine ⟨fun h hc => ?_, fun h => ?_, fun h hc => ?_, fun h hc hl => ?_, fun h hc hl => ?_⟩
  · rw [Gather.handle_of_live pf now mode c last g h, Gather.chargeOrTrim, if_neg (Nat.not_le.2 hc)]
    rfl
  · rw [Gather.handle_of_finished pf now mode c last g h, Gather.handleFinished, hverdict]
    rfl
  · rw [Gather.handle_of_lapsed pf now mode c last g h, Gather.handleLapsed, if_neg (Nat.ne_of_gt hc)]
    rfl
  · rw [Gather.handle_of_lapsed pf now mode c last g h, Gather.handleLapsed, if_pos hc, hl, hverdict]
    rfl
  · rw [Gather.handle_of_lapsed pf now mode c last g h, Gather.handleLapsed, if_pos hc, hl, hverdict]
    rfl

end Sys2Proof.Machine

/-! The draw pass: one step of it (R129 to R133), how it ends (R130, R131, R134), and what it leaves of the state and of each
record (R89, R90, R132). -/

namespace Sys2Proof.Machine

/-! ## The need of a member and the draw size -/

theorem Member.need_of_absent (pf : Profile) {m : Member} (h : m.expected = none) : m.need pf = pf.quantum.toNat := by
  simp only [Member.need, h]

theorem Member.need_of_expected (pf : Profile) {m : Member} {e : Nat} (h : m.expected = some e) :
    m.need pf = if m.passed + m.drawOut + 1 ≤ e then e - m.passed - m.drawOut else pf.quantum.toNat := by
  simp only [Member.need, h, Nat.sub_sub, Nat.succ_le_iff]

/-! ## One step of a pass -/

theorem State.headDraw_none {s : State} {p : Nat} (h : (s.port p).topClass = none) : s.headDraw p = none := by
  simp only [State.headDraw, h]

/-- Settles O41: the draw to try is the one of `HeadDraw`, of size `d`, and each outcome is one of a pass's four steps. -/
theorem drawPassStep : Obligations.DrawPassStep := by
  refine ⟨fun s p h => State.drawPass_none s p (State.headDraw_none (Port.topClass_none _ h)), ?_⟩
  intro s p c k g m h pf need d pt
  have hd : d = m.drawSize pf := by
    refine congrArg (min pf.quantum.toNat) ?_
    cases he : m.expected with
    | none => simp only [need, he, Member.need_of_absent pf he]
    | some e => simp only [need, he, Member.need_of_expected pf he]
  have hdraw : s.headDraw p = some ⟨c, k, g, m, d⟩ := hd ▸ State.headDraw_eq h
  refine ⟨State.drawPass_over s p _ hdraw, State.drawPass_full s p _ hdraw, fun ho hf => ?_⟩
  intro ring queue g' u v
  have hqueue : servedQueue (pt.queue c) k ring = queue := by
    simp only [servedQueue, queue, List.isEmpty_iff]
  have hissue : s.issue p ⟨c, k, g, m, d⟩ = (v.offer p .drawsIssued 1).offer p .drawCells d := by
    simp only [State.issue, Port.issued]
    rw [hqueue]
    rfl
  rw [State.drawPass_issue s p _ hdraw ho hf, hissue]

/-! ## How a pass ends -/

/-- The pass at port `p` is over: there is no draw to try, the draw would put O above F (R130), or the Emission Queue is
full and the port blocked (R131). -/
def State.PassOver (p : Nat) (s : State) : Prop :=
  s.headDraw p = none ∨ ∃ d, s.headDraw p = some d ∧
    ((s.port p).flight < (s.port p).outstanding + d.cells ∨
      ((s.port p).outstanding + d.cells ≤ (s.port p).flight ∧ 256 ≤ s.emq.length ∧ (s.port p).blocked = true))

theorem State.port_block (s : State) (p q : Nat) :
    (s.block p).port q = if q = p then { s.port p with blocked := true } else s.port q := State.port_setPort ..

/-- The blocked flag takes no part in the choice of a draw (R129). -/
theorem State.headDraw_block (s : State) (p : Nat) : (s.block p).headDraw p = s.headDraw p := by
  have hport := s.port_block p p
  rw [if_pos rfl] at hport
  unfold State.headDraw State.profileOf
  rw [hport]
  rfl

/-- A pass ends only where it is over: each issue fills a place of the Emission Queue, so the bound on its steps never
cuts it short. -/
theorem State.drawPass_passOver (s : State) (p : Nat) : (s.drawPass p).PassOver p := by
  cases hd : s.headDraw p with
  | none =>
    rw [State.drawPass_none s p hd]
    exact .inl hd
  | some d =>
    by_cases ho : (s.port p).flight < (s.port p).outstanding + d.cells
    · rw [State.drawPass_over s p d hd ho]
      exact .inr ⟨d, hd, .inl ho⟩
    · by_cases hf : 256 ≤ s.emq.length
      · rw [State.drawPass_full s p d hd (Nat.not_lt.1 ho) hf]
        refine .inr ⟨d, (s.headDraw_block p).trans hd, .inr ?_⟩
        rw [State.port_block, if_pos rfl]
        exact ⟨Nat.not_lt.1 ho, hf, rfl⟩
      · rw [State.drawPass_issue s p d hd (Nat.not_lt.1 ho) (Nat.not_le.1 hf)]
        exact State.drawPass_passOver (s.issue p d) p
termination_by 256 - s.emq.length
decreasing_by
  rw [State.issue_emq, List.length_append, List.length_singleton]
  omega

/-! ## What the draws of a pass leave of a record -/

/-- A member after draws to the entries `drawn`: one that is drawn to has its draw size queued, is DRAWN and has no deadline
(R90). -/
def Member.drawnTo (pf : Profile) (drawn : List Nat) (m : Member) : Member :=
  if m.entry ∈ drawn then m.issued (m.drawSize pf) else m

/-- `g'` is the record `g` after draws to the entries `drawn`, in that order: they leave the head of the wait ring, and no
other member changes. -/
structure Gather.Drawn (pf : Profile) (drawn : List Nat) (g g' : Gather) : Prop where
  frame : { g' with roster := g.roster, ring := g.ring } = g
  ring : g.ring = drawn ++ g'.ring
  entries : g'.roster.map Member.entry = g.roster.map Member.entry
  roster : (g.roster.map Member.entry).Nodup → g'.roster = g.roster.map (Member.drawnTo pf drawn)

section
variable {pf : Profile} {drawn : List Nat} {g g' : Gather} {m : Member}

theorem Member.drawnTo_entry : (m.drawnTo pf drawn).entry = m.entry := by
  unfold Member.drawnTo
  split <;> rfl

theorem Member.drawnTo_append_self : m.drawnTo pf (drawn ++ [m.entry]) = m.issued (m.drawSize pf) := if_pos (by simp)

theorem Member.drawnTo_append_other {e : Nat} (h : m.entry ≠ e) :
    m.drawnTo pf (drawn ++ [e]) = m.drawnTo pf drawn := by simp [Member.drawnTo, h]

/-- A further draw to a member queues the same size: what a draw changes takes no part in the need (R89). -/
theorem Member.issued_drawnTo :
    (m.drawnTo pf drawn).issued ((m.drawnTo pf drawn).drawSize pf) = m.issued (m.drawSize pf) := by
  unfold Member.drawnTo
  split <;> rfl

theorem Gather.drawn_refl (g : Gather) : g.Drawn pf [] g where
  frame := rfl
  ring := rfl
  entries := rfl
  roster := fun _ => (List.map_id'' (fun _ => if_neg List.not_mem_nil) g.roster).symm

/-- An issue draws to the member at the head of the ring (R90). -/
theorem Gather.Drawn.issue (h : g.Drawn pf drawn g') (hm : m ∈ g'.roster) (hring : g'.ring.head? = some m.entry) :
    g.Drawn pf (drawn ++ [m.entry]) (g'.issue (m.drawSize pf) m) where
  frame := h.frame
  ring := by
    obtain ⟨rest, hrest⟩ : ∃ rest, g'.ring = m.entry :: rest := List.head?_eq_some_iff.1 hring
    show g.ring = drawn ++ [m.entry] ++ g'.ring.tail
    rw [h.ring, hrest, List.append_assoc]
    rfl
  entries := (g'.setMember_entries _).trans h.entries
  roster := fun hn => by
    rw [h.roster hn] at hm
    obtain ⟨x, hx, rfl⟩ := List.mem_map.1 hm
    show g'.roster.map _ = _
    rw [h.roster hn, List.map_map]
    refine List.map_congr_left fun y hy => ?_
    rw [Function.comp, show ((x.drawnTo pf drawn).issued _).entry = x.entry from Member.drawnTo_entry,
      Member.drawnTo_entry, Member.drawnTo_entry]
    by_cases hyx : y.entry = x.entry
    · obtain rfl : y = x := List.inj_on_of_nodup_map hn hy hx hyx
      rw [if_pos rfl, Member.issued_drawnTo, Member.drawnTo_append_self]
    · rw [if_neg hyx, Member.drawnTo_append_other hyx]

end

/-! ## What an issue does -/

section
variable {s t : State} {p : Nat} {d : Draw} {new : List Emission}

/-- The draw to try is to the member at the head of its record's ring, of that member's draw size (R89, R129). -/
theorem State.headDraw_head (h : s.headDraw p = some d) :
    d.gather.ring.head? = some d.member.entry ∧ d.cells = d.member.drawSize (s.profileOf p) := by
  unfold State.headDraw at h
  split at h
  · cases h
  · split at h
    · cases h
    · split at h
      · cases h
      · split at h
        · cases h
        · rename_i hhead
          split at h
          · cases h
          · rename_i hm
            cases h
            exact ⟨hhead.trans (congrArg some (Gather.mem_of_member? hm).2.symm), rfl⟩

theorem State.slot_issue (s : State) (p : Nat) (d : Draw) (k : Nat) : (s.issue p d).slot k =
    if k = d.slot then ⟨(s.slot d.slot).generation, some (d.gather.issue d.cells d.member)⟩ else s.slot k := by
  rw [State.slot, State.issue_slots]
  exact State.slot_setGather ..

theorem State.gather?_issue (s : State) (p : Nat) (d : Draw) (k : Nat) : (s.issue p d).gather? k =
    if k = d.slot then some (d.gather.issue d.cells d.member) else s.gather? k := by
  rw [State.gather?, State.slot_issue]
  split <;> rfl

/-- Of two events that each may raise the bits `x`, both together may raise them (R176). -/
theorem raises_trans {x a b c : BitVec 7} (hb : b = a ∨ b = a ||| x) (hc : c = b ∨ c = b ||| x) :
    c = a ∨ c = a ||| x := by
  rcases hb with rfl | rfl
  · exact hc
  · rw [BitVec.or_assoc, BitVec.or_self, or_self] at hc
    exact .inr hc

/-- An issue raises METER_OVERFLOW or leaves the attention summary (R132, R169). -/
theorem State.attn_issue (s : State) (p : Nat) (d : Draw) :
    (s.issue p d).attn = s.attn ∨ (s.issue p d).attn = s.attn ||| 0x40#7 :=
  raises_trans (State.attn_offer _ p .drawsIssued 1) (State.attn_offer _ p .drawCells d.cells)

/-! ## What the draws of a pass leave of the state -/

/-- The members of slot `k`'s record that the entries `new` draw to, in their order. -/
def drawnOf (k : Nat) (new : List Emission) : List Nat :=
  (new.filter fun e => decide (e.slot = k)).map Emission.entry

theorem drawnOf_append (k : Nat) (new : List Emission) (e : Emission) :
    drawnOf k (new ++ [e]) = if e.slot = k then drawnOf k new ++ [e.entry] else drawnOf k new := by
  rw [drawnOf, List.filter_append, List.map_append]
  split <;> rename_i h <;> simp [drawnOf, h]

/-- `t` is `s` after draws at port `p` that appended `new` to the Emission Queue: what they leave of the ports, the attention
summary, the slots and the records. -/
structure State.Draws (s : State) (p : Nat) (new : List Emission) (t : State) : Prop where
  profiles : t.profiles = s.profiles
  otherPorts : ∀ j, j ≠ p → t.port j = s.port j
  pressure : (t.port p).SamePressure (s.port p)
  attn : t.attn = s.attn ∨ t.attn = s.attn ||| 0x40#7
  emq : t.emq = s.emq ++ new
  places : ∀ e ∈ new, e.port = p ∧ (s.gather? e.slot).isSome = true
  generation : ∀ k, (t.slot k).generation = (s.slot k).generation
  vacant : ∀ k, s.gather? k = none → t.gather? k = none
  record : ∀ k g, s.gather? k = some g →
    ∃ g', t.gather? k = some g' ∧ g.Drawn (s.profileOf p) (drawnOf k new) g'

theorem State.draws_refl (s : State) (p : Nat) : s.Draws p [] s where
  profiles := rfl
  otherPorts := fun _ _ => rfl
  pressure := rfl
  attn := .inl rfl
  emq := (List.append_nil _).symm
  places := by simp
  generation := fun _ => rfl
  vacant := fun _ h => h
  record := fun _ g h => ⟨g, h, g.drawn_refl⟩

theorem State.Draws.profileOf (h : s.Draws p new t) : t.profileOf p = s.profileOf p := by
  obtain ⟨-, hport, -⟩ := h.pressure.agree
  rw [State.profileOf, State.profileOf, State.profileAt, State.profileAt, hport, h.profiles]

/-- The draw to try is to a record that stood before the pass (R132). -/
theorem State.Draws.stood (h : s.Draws p new t) (hd : t.headDraw p = some d) : ∃ g, s.gather? d.slot = some g := by
  refine Option.ne_none_iff_exists'.1 fun hnone => ?_
  have hgone := h.vacant _ hnone
  rw [(State.headDraw_record hd).1] at hgone
  cases hgone

theorem State.Draws.issue (h : s.Draws p new t) (hd : t.headDraw p = some d) :
    s.Draws p (new ++ [t.emissionOf p d]) (t.issue p d) := by
  obtain ⟨hrecord, hmem⟩ := State.headDraw_record hd
  obtain ⟨hring, hcells⟩ := State.headDraw_head hd
  obtain ⟨g₀, hg₀⟩ := h.stood hd
  rw [h.profileOf] at hcells
  refine ⟨(State.apart_profiles (t.issue_apart p d)).trans h.profiles, fun j hj => ?_, ?_, ?_, ?_, fun e he => ?_,
    fun k => ?_, fun k hk => ?_, fun k g hg => ?_⟩
  · rw [State.port_issue, if_neg hj, h.otherPorts j hj]
  · rw [State.port_issue, if_pos rfl]
    exact h.pressure
  · exact raises_trans h.attn (t.attn_issue p d)
  · rw [State.issue_emq, h.emq, List.append_assoc]
  · rcases List.mem_append.1 he with he | he
    · exact h.places e he
    · obtain rfl := List.mem_singleton.1 he
      exact ⟨rfl, Option.isSome_iff_exists.2 ⟨g₀, hg₀⟩⟩
  · rw [State.slot_issue]
    split
    · rename_i hk
      rw [hk]
      exact h.generation _
    · exact h.generation k
  · rw [State.gather?_issue, if_neg (fun hkd => by rw [hkd, hg₀] at hk; cases hk)]
    exact h.vacant k hk
  · obtain ⟨g', hg', hdrawn⟩ := h.record k g hg
    rw [State.gather?_issue]
    by_cases hk : k = d.slot
    · subst hk
      obtain rfl : d.gather = g' := Option.some.inj (hrecord.symm.trans hg')
      refine ⟨_, if_pos rfl, ?_⟩
      rw [hcells, drawnOf_append, if_pos (show (t.emissionOf p d).slot = d.slot from rfl)]
      exact hdrawn.issue hmem hring
    · refine ⟨g', (if_neg hk).trans hg', ?_⟩
      rw [drawnOf_append, if_neg (show (t.emissionOf p d).slot ≠ k from Ne.symm hk)]
      exact hdrawn

theorem State.Draws.block (h : s.Draws p new t) : s.Draws p new (t.block p) :=
  { h with
    otherPorts := fun j hj => by rw [State.port_block, if_neg hj, h.otherPorts j hj]
    pressure := by
      rw [State.port_block, if_pos rfl]
      exact h.pressure }

/-- A pass makes draws alone (R128 to R134). -/
theorem State.drawPass_draws (s : State) (p : Nat) : ∃ new, s.Draws p new (s.drawPass p) :=
  State.drawPass_keeps p (fun t => ∃ new, s.Draws p new t) (fun _ _ ⟨_, h⟩ hd _ _ => ⟨_, h.issue hd⟩)
    (fun _ _ ⟨new, h⟩ _ _ _ => ⟨new, h.block⟩) s ⟨[], s.draws_refl p⟩

end

/-- States that agree apart from draws and in the pointer differ in what a pass reaches alone. -/
theorem State.eq_of_apart {s t : State} (h : t.apartFromDraws = s.apartFromDraws) (hp : t.pointer = s.pointer) :
    t = { s with slots := t.slots, ports := t.ports, emq := t.emq, meters := t.meters, attn := t.attn } := by
  cases s
  cases t
  simp only [State.apartFromDraws, State.mk.injEq] at h hp ⊢
  simp only [h, hp, and_self]

/-- Settles O42: the pass ends only where it is over, and `State.Draws` says what its draws leave. -/
theorem drawPassEndsAndChangesOnlyDraws : Obligations.DrawPassEndsAndChangesOnlyDraws := by
  intro s p t quantum size
  obtain ⟨new, h⟩ := s.drawPass_draws p
  have hsize : size = fun m => m.drawSize (s.profileOf p) := by
    funext m
    refine congrArg (min quantum) ?_
    cases he : m.expected with
    | none => simp only [Member.need_of_absent _ he, quantum]
    | some e => simp only [Member.need_of_expected _ he, quantum]
  refine ⟨s.drawPass_passOver p, State.eq_of_apart (s.drawPass_apart p) (s.drawPass_pointer p), h.otherPorts, h.pressure,
    h.attn, new, h.emq, h.places, fun k => ⟨h.generation k, h.vacant k, ?_⟩⟩
  intro g hg drawn
  obtain ⟨g', hg', hdrawn⟩ := h.record k g hg
  refine ⟨g', hg', hdrawn.frame, hdrawn.ring, hdrawn.entries, fun hn => ?_⟩
  rw [hdrawn.roster hn, hsize]
  rfl

end Sys2Proof.Machine

/-! What no command but those of the ports changes: the profiles and the settings and the pressure of each port (R97, R149,
R156). Every operation on records, draws, meters and queries leaves them. -/

namespace Sys2Proof.Machine

/-! ## Settings and pressure -/

/-- A port without its draw state: its settings and its pressure (R97, R120, R156). -/
def Port.pressure (pt : Port) : Port := { pt with outstanding := 0, queues := [], blocked := false }

/-- The profiles, and the settings and the pressure of every port. -/
def State.pressure (s : State) : Table Profile × (Nat → Port) := (s.profiles, fun p => (s.port p).pressure)

section
variable {s t : State} {p : Nat}

theorem State.pressure_congr (hports : t.ports = s.ports) (hprofiles : t.profiles = s.profiles) :
    t.pressure = s.pressure := by
  simp only [State.pressure, State.port, hports, hprofiles]

/-- A change of a port's draw state alone leaves the pressure. -/
theorem State.pressure_setPort {v : Port} (h : v.pressure = (s.port p).pressure) : (s.setPort p v).pressure = s.pressure := by
  refine Prod.ext rfl (funext fun q => ?_)
  show ((s.setPort p v).port q).pressure = (s.port q).pressure
  rw [State.port_setPort]
  split
  · rename_i hq; rw [h, hq]
  · rfl

/-! ## Meters, attention, records and returns -/

@[simp] theorem State.pressure_offer (s : State) (p : Nat) (ev : MeterEvent) (inc : Nat) :
    (s.offer p ev inc).pressure = s.pressure := State.pressure_congr (by simp) (by simp)

@[simp] theorem State.pressure_raise (s : State) (src : AttnSource) : (s.raise src).pressure = s.pressure := rfl

@[simp] theorem State.pressure_mapMeters (s : State) (f : Meter → Meter) : (s.mapMeters f).pressure = s.pressure := rfl

@[simp] theorem State.pressure_take (s : State) : s.take.2.pressure = s.pressure := by
  obtain ⟨-, htake⟩ | ⟨_, _, _, -, -, htake⟩ := State.take_cases s <;> (rw [htake]; rfl)

@[simp] theorem State.pressure_giveBack (s : State) (p cells : Nat) : (s.giveBack p cells).pressure = s.pressure :=
  State.pressure_setPort rfl

@[simp] theorem State.pressure_dequeue (s : State) (p c k : Nat) : (s.dequeue p c k).pressure = s.pressure :=
  State.pressure_setPort rfl

@[simp] theorem State.pressure_enqueue (s : State) (p c k : Nat) : (s.enqueue p c k).pressure = s.pressure :=
  State.pressure_setPort rfl

@[simp] theorem State.pressure_setGather (s : State) (k : Nat) (g : Gather) : (s.setGather k g).pressure = s.pressure := rfl

@[simp] theorem State.pressure_freeSlot (s : State) (k : Nat) (g : Gather) : (s.freeSlot k g).pressure = s.pressure := rfl

@[simp] theorem State.pressure_putGather (s : State) (k : Nat) (old new : Gather) :
    (s.putGather k old new).pressure = s.pressure := by
  unfold State.putGather
  dsimp only
  split <;> split <;> simp

@[simp] theorem State.pressure_leaveActive (s : State) (k : Nat) (g : Gather) :
    (s.leaveActive k g).pressure = s.pressure := by
  simp [State.leaveActive]

@[simp] theorem State.pressure_endGather (s : State) (k : Nat) (g : Gather) (o : Ending) :
    (s.endGather k g o).1.pressure = s.pressure := by
  unfold State.endGather
  dsimp only
  split <;> simp

/-- The ending that a completion test may lead to (R59). -/
@[simp] theorem State.pressure_endGather_ite {c : Prop} [Decidable c] (s : State) (k : Nat) (g : Gather) (o : Ending) :
    (if c then s.endGather k g o else (s, false)).1.pressure = s.pressure := by
  split <;> simp

@[simp] theorem State.pressure_retire (s : State) (k : Nat) : (s.retire k).1.pressure = s.pressure := by
  unfold State.retire
  split
  · rfl
  · split <;> simp

@[simp] theorem State.pressure_retireAll (s : State) (ks : List Nat) : (s.retireAll ks).1.pressure = s.pressure := by
  rw [State.retireAll_eq]
  refine List.foldlRecOn (motive := fun a : State × List Nat => a.1.pressure = s.pressure) ks _ rfl fun a ha k _ => ?_
  unfold retireStep
  split
  · exact ha
  · exact (a.1.pressure_retire k).trans ha

/-! ## Passes and the link -/

theorem State.pressure_issue (s : State) (p : Nat) (d : Draw) : (s.issue p d).pressure = s.pressure := by
  have hset : (s.setPort p ((s.port p).issued d)).pressure = s.pressure := State.pressure_setPort rfl
  simp only [State.issue, State.pressure_offer]
  exact hset

theorem State.pressure_block (s : State) (p : Nat) : (s.block p).pressure = s.pressure := State.pressure_setPort rfl

@[simp] theorem State.pressure_drawPass (s : State) (p : Nat) : (s.drawPass p).pressure = s.pressure :=
  State.drawPass_keeps p (fun t => t.pressure = s.pressure) (fun t d h _ _ _ => (t.pressure_issue p d).trans h)
    (fun t _ h _ _ _ => (t.pressure_block p).trans h) s rfl

@[simp] theorem State.pressure_passIf (s : State) (call : Bool) (p : Nat) : (s.passIf call p).pressure = s.pressure :=
  State.passIf_keeps call p (fun t => t.pressure = s.pressure) (fun t h => (t.pressure_drawPass p).trans h) s rfl

@[simp] theorem State.pressure_passes (s : State) (called : List Nat) : (s.passes called).pressure = s.pressure :=
  State.passes_keeps called (fun t => t.pressure = s.pressure) (fun t p _ _ h => (t.pressure_drawPass p).trans h) s rfl

theorem State.pressure_handTo (s : State) (p : Nat) : (s.handTo p).pressure = s.pressure :=
  State.pressure_setPort (s := { s with pointer := p }) rfl

@[simp] theorem State.pressure_handPlace (s : State) (p : Nat) (call : Bool) : (s.handPlace p call).pressure = s.pressure :=
  State.handPlace_keeps p call (fun t => t.pressure = s.pressure) (fun t q _ _ h => (t.pressure_handTo q).trans h)
    (fun t q h => (t.pressure_drawPass q).trans h) s rfl

@[simp] theorem State.pressure_serveAll (s : State) (called : List Nat) : (s.serveAll called).pressure = s.pressure :=
  State.serveAll_keeps called (fun t => t.pressure = s.pressure) (fun t q _ _ h => (t.pressure_handTo q).trans h)
    (fun t q _ h => (t.pressure_drawPass q).trans h) s rfl

theorem State.pressure_depart (s : State) (e : Emission) (g : Gather) (m : Member) :
    (s.depart e g m).pressure = s.pressure := by
  simp only [State.depart, State.pressure_handPlace, State.pressure_putGather]
  rfl

theorem pressure_walkEntry (a : State × List Nat) (e : Emission) : (walkEntry a e).1.pressure = a.1.pressure := by
  unfold walkEntry
  split
  · rfl
  · simp

theorem State.pressure_linkReset (s : State) : s.linkReset.pressure = s.pressure := by
  have hfold : (s.emq.foldl walkEntry (s, [])).1.pressure = s.pressure :=
    List.foldlRecOn (motive := fun a : State × List Nat => a.1.pressure = s.pressure) s.emq walkEntry rfl
      fun a ha e _ => (pressure_walkEntry a e).trans ha
  exact (s.walk.1.pressure_serveAll s.walk.2).trans hfold

/-! ## Queries -/

@[simp] theorem State.pressure_fault (s : State) (q : List Word) (status : Status) (parameter : BitVec 16) :
    (s.fault q status parameter).pressure = s.pressure := by
  show (s.countFault q status).pressure = s.pressure
  unfold State.countFault
  split <;> exact State.pressure_congr (by simp) (by simp)

@[simp] theorem State.pressure_appendAnswer (s : State) (a : Answer) : (s.appendAnswer a).pressure = s.pressure := rfl

theorem pressure_addListed (k : Nat) (a : Adding) (x : Token × Nat) :
    (addListed k a x).state.pressure = a.state.pressure := by
  have htake := a.state.pressure_take
  unfold addListed
  split
  · rfl
  · split
    · rfl
    · split
      · split <;> (rename_i hu; rw [hu] at htake; simpa using htake)
      · split <;> rfl

@[simp] theorem State.pressure_addAll (s : State) (k : Nat) (listed : List (Token × Nat)) :
    (s.addAll k listed).state.pressure = s.pressure :=
  List.foldlRecOn (motive := fun a : Adding => a.state.pressure = s.pressure) listed _ rfl
    fun a ha x _ => (pressure_addListed k a x).trans ha

theorem State.pressure_openFresh (s : State) (q : List Word) : (s.openFresh q).pressure = s.pressure := by
  unfold State.openFresh
  split
  · simp
  · simp [State.openAt, State.answerGrant]

theorem State.pressure_openGather (s : State) (q : List Word) : (s.openGather q).pressure = s.pressure := by
  unfold State.openGather
  split
  · exact s.pressure_openFresh q
  · split
    · simp
    · simp [State.pressure_openFresh]

theorem State.pressure_extendGather (s : State) (q : List Word) : (s.extendGather q).pressure = s.pressure := by
  unfold State.extendGather
  split
  · simp
  · split <;> simp [State.extendAt, State.answerGrant]

theorem State.pressure_reclassGather (s : State) (q : List Word) : (s.reclassGather q).pressure = s.pressure := by
  unfold State.reclassGather
  split
  · simp
  · split <;> simp [State.reclassAt, State.answerSlot]

theorem State.pressure_closeGather (s : State) (q : List Word) : (s.closeGather q).pressure = s.pressure := by
  unfold State.closeGather
  split
  · simp
  · split <;> simp [State.closeAt, State.answerSlot]

@[simp] theorem State.pressure_answerTable (s : State) (q : List Word) (v : Verdict) (b : Basis) (parameter : Nat) :
    (s.answerTable q v b parameter).pressure = s.pressure := by
  simp [State.answerTable, State.answerVerdict]

@[simp] theorem State.pressure_arriveMember (s : State) (q : List Word) (k : Nat) (g : Gather) (m : Member) (call : Bool) :
    (s.arriveMember q k g m call).pressure = s.pressure := by
  simp [State.arriveMember, State.answerVerdict]

theorem State.pressure_arriveRoster (s : State) (q : List Word) (k : Nat) (g : Gather) :
    (s.arriveRoster q k g).pressure = s.pressure := by
  have htake := s.pressure_take
  unfold State.arriveRoster
  split
  · simp
  · split
    · split
      · rename_i hu
        rw [hu] at htake
        simpa [State.arriveUnjoined, State.arriveStray] using htake
      · rename_i hu
        rw [hu] at htake
        dsimp only
        split
        · exact htake
        · simpa using htake
    · simp only [State.arriveUnjoined, State.arriveStray, State.pressure_answerTable, State.pressure_setGather]
      split <;> rfl

theorem State.pressure_classify (s : State) (q : List Word) : (s.classify q).pressure = s.pressure := by
  unfold State.classify
  split
  · simp [State.arriveExempt, State.answerVerdict]
  · split
    · simp [State.arriveStray]
    · split
      · simp [State.arriveStraggler]
      · exact s.pressure_arriveRoster q _ _

/-- A query command leaves the pressure where its owner does. -/
theorem State.pressure_takeQuery (s : State) (f : BitVec 4 → Bool) {owner : List Word → State → State}
    (how : ∀ (u : State) (q : List Word), (owner q u).pressure = u.pressure) :
    (s.takeQuery f owner).pressure = s.pressure := by
  rcases State.takeQuery_cases s f owner with heq | ⟨-, q, -, ⟨status, parameter, heq⟩ | ⟨-, heq⟩⟩
  · rw [heq]
  · rw [heq, State.pressure_fault]; rfl
  · rw [heq, how]; rfl

/-! ## Expiries of records -/

theorem State.pressure_reclaim (s : State) (k : Nat) (g : Gather) (m : Member) :
    (s.reclaim k g m).pressure = s.pressure := by
  simp [State.reclaim]

theorem State.pressure_expireGather (s : State) (k : Nat) (g : Gather) (o : Ending) :
    (s.expireGather k g o).pressure = s.pressure := by
  simp [State.expireGather]

/-! ## The host's commands and the word field -/

@[simp] theorem State.pressure_finishCommand (s : State) (code port : BitVec 8) (tag : Tag) (r : Result) :
    (s.finishCommand code port tag r).pressure = s.pressure := rfl

@[simp] theorem State.pressure_advance (s : State) : s.advance.pressure = s.pressure := rfl

end

end Sys2Proof.Machine

/-! What each command makes of the ports' settings and pressure: the ports' own commands and expiries change one port, a
profile write changes its profile and clamps the ports that name it, and every other command changes none of them (R98 to
R108, R112, R115, R118, R154, R157). -/

namespace Sys2Proof.Machine

/-! ## What a command makes of the pressure -/

/-- The command `c` makes port `p` of the state `s` the port `v`. -/
inductive State.Moves (s : State) : Instr → Nat → Port → Prop
  | report (port : BitVec 8) (depth : BitVec 16) : (s.port port.toNat).enabled = true →
      s.Moves (.report port depth) port.toNat
        ((s.port port.toNat).report (s.profileOf port.toNat) s.timebase depth.toNat)
  | dwellFall (p : Nat) : (s.port p).dwell.isDue s.timebase = true →
      s.Moves (.dwellExpiry p) p ((s.port p).dwellFall (s.profileOf p) s.timebase)
  | goStale (p : Nat) : due s.timebase (s.port p).staleAt = true →
      s.Moves (.staleExpiry p) p ((s.port p).goStale s.timebase)
  | enable (port : BitVec 8) (tag : Tag) : s.Moves (.enablePort port tag) port.toNat
      ((s.port port.toNat).enable (s.profileOf port.toNat) s.timebase)
  | disable (port : BitVec 8) (tag : Tag) : s.Moves (.disablePort port tag) port.toNat (s.port port.toNat).disable
  | profileNumber (value : Word) (p : Nat) (n : BitVec 3) :
      s.Moves (.profileNumberWrite value) p ((s.port p).setProfile n (s.profileAt n.toNat))
  | adminFloor (value : Word) (p : Nat) (floor : BitVec 3) : s.Moves (.adminFloorWrite value) p
      (Port.refloor (s.profileOf p) { s.port p with adminFloor := floor })
  | clearFlags (p : Nat) : s.Moves .portStatusRead p { s.port p with atFloor := false, atCeiling := false }

/-- The profiles and the ports after command `c`, draw state apart, come from those of `s`: they stand, one port moves, or a
word of a profile is stored, word 4 with the clamp of the ports that name the profile. -/
inductive State.Repressures (s : State) (c : Instr) (t : State) : Prop
  | stands : t.pressure = s.pressure → s.Repressures c t
  | moves (p : Nat) (v : Port) : s.Moves c p v → t.pressure = (s.setPort p v).pressure → s.Repressures c t
  | stores (n w : Nat) (value : Word) : c = .profileWrite value → w ≠ 4 →
      t.pressure = (s.setProfile n ((s.profileAt n).store w value)).pressure → s.Repressures c t
  | clamps (n : Nat) (value : Word) (u : State) : c = .profileWrite value →
      u.profiles = (s.setProfile n ((s.profileAt n).store 4 value)).profiles →
      (∀ q, u.port q = if q < 48 ∧ (s.port q).enabled = true ∧ (s.port q).profile.toNat = n
        then (s.port q).bring ((s.profileAt n).store 4 value) (s.port q).flight else s.port q) →
      t.pressure = u.pressure → s.Repressures c t

section
variable {s t : State} {c : Instr} {p : Nat}

/-- What a port's change leads to beyond the port leaves every port's pressure (R113, R116). -/
theorem State.pressure_applyPort (s : State) (p : Nat) (old new : Port) :
    (s.applyPort p old new).pressure = (s.setPort p new).pressure := by
  unfold State.applyPort
  rw [State.pressure_passIf]
  split <;> split <;> simp [State.surgeEntry, State.surgeExit]

/-- The pressure after a port is written is that before it and the port written. -/
theorem State.pressure_setPort_congr {u : State} {v w : Port} (h : u.pressure = s.pressure) (hvw : v.pressure = w.pressure) :
    (u.setPort p v).pressure = (s.setPort p w).pressure := by
  obtain ⟨hprofiles, hports⟩ := Prod.ext_iff.1 h
  refine Prod.ext hprofiles (funext fun q => ?_)
  show ((u.setPort p v).port q).pressure = ((s.setPort p w).port q).pressure
  rw [State.port_setPort, State.port_setPort]
  split
  · exact hvw
  · exact congrFun hports q

theorem State.Repressures.ite {b : Prop} [Decidable b] {u : State} (ht : b → s.Repressures c t) (hu : s.Repressures c u) :
    s.Repressures c (if b then t else u) := by
  split
  · rename_i hb; exact ht hb
  · exact hu

/-- A change that leaves the pressure. -/
theorem State.Repressures.congr {u : State} (h : s.Repressures c t) (hu : u.pressure = t.pressure) :
    s.Repressures c u := by
  cases h with
  | stands h => exact .stands (hu.trans h)
  | moves p v hv h => exact .moves p v hv (hu.trans h)
  | stores n w value hc hw h => exact .stores n w value hc hw (hu.trans h)
  | clamps n value x hc hx hports h => exact .clamps n value x hc hx hports (hu.trans h)

/-! ## The commands that move a port or write a profile -/

theorem State.enableAt_repressures (s : State) (port : BitVec 8) (tag : Tag) :
    s.Repressures (.enablePort port tag) (s.enableAt port.toNat) := by
  unfold State.enableAt
  dsimp only
  split
  · exact .stands rfl
  · exact .ite (fun _ => .moves _ _ (.enable port tag) (State.pressure_mapMeters _ _)) (.moves _ _ (.enable port tag) rfl)

theorem Port.disable_pressure {v w : Port} (h : v.pressure = w.pressure) : v.disable.pressure = w.disable.pressure :=
  congrArg Port.disable h

/-- A port is disabled from the pressure it had before its records went FREE (R160). -/
theorem State.disableAt_repressures (s : State) (port : BitVec 8) (tag : Tag) :
    s.Repressures (.disablePort port tag) (s.disableAt port.toNat) := by
  refine .ite (fun _ => .moves _ _ (.disable port tag) ?_) (.stands rfl)
  have hfreed : ((s.retireAll (s.slotsOf port.toNat)).1.passes (s.retireAll (s.slotsOf port.toNat)).2).pressure =
      s.pressure := by simp
  exact State.pressure_setPort_congr hfreed (Port.disable_pressure (congrFun (congrArg Prod.snd hfreed) port.toNat))

/-- The clamp changes the ports alone, as the profile's bounds have it, and its passes leave the pressure (R154). -/
theorem State.pressure_clampPorts (s : State) (n : Nat) : ∃ u : State, (s.clampPorts n).pressure = u.pressure ∧
    u.profiles = s.profiles ∧
    ∀ q, u.port q = if q < 48 ∧ (s.port q).enabled = true ∧ (s.port q).profile.toNat = n
      then (s.port q).bring (s.profileAt n) (s.port q).flight else s.port q := by
  obtain ⟨u, called, hfold, hframe, -, hport⟩ := s.clampPorts_fold n 48
  refine ⟨u, ?_, by rw [hframe], hport⟩
  rw [State.clampPorts, show Config.ports = 48 from rfl, hfold, State.pressure_passes]

/-- A profile write stores a word, and a write of word 4 clamps the ports (R154). -/
theorem exec_profileWrite_repressures (s : State) (value : Word) :
    ∃ t, exec (.profileWrite value) s = .next t ∧ s.Repressures (.profileWrite value) t := by
  refine ⟨_, rfl, ?_⟩
  split
  · rename_i n w _
    dsimp only
    split
    · rename_i hw
      subst hw
      obtain ⟨u, hpressure, hprofiles, hports⟩ :=
        (s.setProfile n ((s.profileAt n).store 4 value)).advance.pressure_clampPorts n
      have hself : (s.setProfile n ((s.profileAt n).store 4 value)).advance.profileAt n =
          (s.profileAt n).store 4 value := (State.profileAt_setProfile ..).trans (if_pos rfl)
      rw [hself] at hports
      exact .clamps n value u rfl hprofiles hports hpressure
    · rename_i hw
      exact .stores n w value rfl hw rfl
  · exact .stands rfl

/-! ## The commands -/

/-- Every command but part reset repressures the state. -/
theorem exec_repressures (c : Instr) (hreset : c ≠ .partReset) (s : State) :
    ∃ t, exec c s = .next t ∧ s.Repressures c t := by
  have hself : ∀ {c}, s.Repressures c s := .stands rfl
  cases c with
  | partReset => exact absurd rfl hreset
  | lossOfFraming => exact ⟨_, rfl, .ite (fun _ => .stands s.pressure_linkReset) hself⟩
  | framingAcquired => exact ⟨_, rfl, .stands rfl⟩
  | queryArrival words => exact ⟨_, rfl, .ite (fun _ => .ite (fun _ => .stands rfl) (.stands rfl)) hself⟩
  | undefinedSignal words => exact ⟨s, rfl, hself⟩
  | openQuery => exact ⟨_, rfl, .stands (s.pressure_takeQuery _ State.pressure_openGather)⟩
  | extendQuery => exact ⟨_, rfl, .stands (s.pressure_takeQuery _ State.pressure_extendGather)⟩
  | reclassQuery => exact ⟨_, rfl, .stands (s.pressure_takeQuery _ State.pressure_reclassGather)⟩
  | closeQuery => exact ⟨_, rfl, .stands (s.pressure_takeQuery _ State.pressure_closeGather)⟩
  | arriveQuery => exact ⟨_, rfl, .stands (s.pressure_takeQuery _ State.pressure_classify)⟩
  | undefinedQuery => exact ⟨_, rfl, .stands (s.pressure_takeQuery _ fun _ _ => rfl)⟩
  | answer =>
    refine ⟨_, rfl, ?_⟩
    split
    · exact hself
    · exact .ite (fun _ => .stands rfl) hself
  | drawEmission =>
    refine ⟨_, rfl, ?_⟩
    split
    · exact hself
    · split
      · exact hself
      · exact .ite (fun _ => .stands (s.pressure_depart _ _ _)) hself
  | staleDiscard =>
    refine ⟨_, rfl, ?_⟩
    split
    · exact hself
    · split
      · exact .stands (State.pressure_handPlace { s with emq := s.emq.tail } 0 false)
      · exact hself
  | emitCredit count => exact ⟨_, rfl, .ite (fun _ => .stands rfl) hself⟩
  | linkReset => exact ⟨_, rfl, .ite (fun _ => .stands s.pressure_linkReset) hself⟩
  | report port depth =>
    refine ⟨_, rfl, .ite (fun h => ?_) hself⟩
    simp only [Bool.and_eq_true] at h
    exact .moves _ _ (.report port depth h.2) (s.pressure_applyPort _ _ _)
  | dwellExpiry port =>
    refine ⟨_, rfl, .ite (fun h => ?_) hself⟩
    simp only [Bool.and_eq_true] at h
    exact .moves _ _ (.dwellFall port h.2) (s.pressure_applyPort _ _ _)
  | staleExpiry port =>
    refine ⟨_, rfl, .ite (fun h => ?_) hself⟩
    simp only [Bool.and_eq_true] at h
    exact .moves _ _ (.goStale port h.2) rfl
  | drawDeadlineExpiry slot position =>
    refine ⟨_, rfl, ?_⟩
    split
    · exact hself
    · split
      · exact hself
      · exact .ite (fun _ => .stands (s.pressure_reclaim _ _ _)) hself
  | idleExpiry slot =>
    refine ⟨_, rfl, ?_⟩
    split
    · exact hself
    · exact .ite (fun _ => .stands (s.pressure_expireGather _ _ _)) hself
  | lifetimeExpiry slot =>
    refine ⟨_, rfl, ?_⟩
    split
    · exact hself
    · exact .ite (fun _ => .stands (s.pressure_expireGather _ _ _)) hself
  | lingerExpiry slot =>
    refine ⟨_, rfl, ?_⟩
    split
    · exact hself
    · exact .ite (fun _ => .stands rfl) hself
  | enablePort port tag =>
    exact ⟨_, rfl, .ite (fun _ => (s.enableAt_repressures port tag).congr rfl) (.stands rfl)⟩
  | disablePort port tag =>
    exact ⟨_, rfl, .ite (fun _ => (s.disableAt_repressures port tag).congr rfl) (.stands rfl)⟩
  | retireGather port tag =>
    refine ⟨_, rfl, .ite (fun _ => ?_) (.stands rfl)⟩
    split
    · exact .stands rfl
    · exact .stands (by simp)
  | purgeAll port tag => exact ⟨_, rfl, .stands (by simp)⟩
  | metersStart port tag => exact ⟨_, rfl, .stands (by simp)⟩
  | metersStop port tag => exact ⟨_, rfl, .stands (by simp)⟩
  | badCommand code port tag => exact ⟨_, rfl, .ite (fun _ => .stands rfl) hself⟩
  | profileWrite value => exact exec_profileWrite_repressures s value
  | profileNumberWrite value =>
    refine ⟨_, rfl, ?_⟩
    split
    · exact .moves _ _ (.profileNumber value _ _) (State.pressure_passIf ..)
    · exact hself
  | adminFloorWrite value =>
    refine ⟨_, rfl, ?_⟩
    split
    · exact .moves _ _ (.adminFloor value _ _) (State.pressure_passIf ..)
    · exact hself
  | portStatusRead =>
    refine ⟨_, rfl, ?_⟩
    split
    · exact .moves _ _ (.clearFlags _) rfl
    · exact hself
  | exemptWrite value =>
    refine ⟨_, rfl, ?_⟩
    split <;> exact .stands rfl
  | meterConfigWrite value =>
    refine ⟨_, rfl, ?_⟩
    split <;> exact .stands rfl
  | meterCountWrite value =>
    refine ⟨_, rfl, ?_⟩
    split <;> exact .stands rfl
  | meterFlagClear value =>
    refine ⟨_, rfl, ?_⟩
    split <;> exact .stands rfl
  | tableWindowRead =>
    refine ⟨_, rfl, ?_⟩
    split <;> exact .stands rfl
  | attnSummaryWrite value => exact ⟨_, rfl, .stands rfl⟩
  | attnEnableWrite value => exact ⟨_, rfl, .stands rfl⟩
  | poolLowMarkWrite value => exact ⟨_, rfl, .stands rfl⟩
  | registerWrite index lanes value =>
    exact ⟨_, rfl, .ite (fun _ => .ite (fun _ => .stands rfl) (.ite (fun _ => .stands rfl) hself)) hself⟩
  | timebaseAdvance => exact ⟨_, rfl, .ite (fun _ => hself) (.stands rfl)⟩

end

end Sys2Proof.Machine

/-! The laws of port pressure that every step keeps, and the ways down for a mode: R98, R104, R105, R107, R108, R112 and
the stored values of R150 to R152. -/

namespace Sys2Proof.Machine

/-! ## One step -/

/-- A law that every command keeps, and that does not speak of the waiting commands, is kept by every step. -/
theorem State.step_keeps {P : State → Prop} (hexec : ∀ (c : Instr) (s t : State), P s → exec c s = .next t → P t)
    (hwait : ∀ (s : State) (rest : List Instr), P s → P { s with pending := rest }) {s t : State} (h : P s)
    (hstep : step s = .next t) : P t := by
  unfold step at hstep
  split at hstep
  · exact Host.Outcome.next.inj hstep ▸ h
  · exact hexec _ _ t (hwait s _ h) hstep

/-- What part reset and every other command can do to the pressure (R10, R97, R149). -/
theorem exec_pressure {c : Instr} {s t : State} (ht : exec c s = .next t) :
    (c = .partReset ∧ t.pressure = State.reset.pressure) ∨ s.Repressures c t := by
  by_cases hreset : c = .partReset
  · subst hreset
    obtain rfl := Host.Outcome.next.inj ht
    exact .inl ⟨rfl, rfl⟩
  · obtain ⟨u, hu, h⟩ := exec_repressures c hreset s
    obtain rfl := Host.Outcome.next.inj (ht.symm.trans hu)
    exact .inr h

section
variable {s t : State} {c : Instr} {p : Nat} {v pt : Port}

/-! ## States of the same pressure -/

theorem State.port_of_pressure (h : t.pressure = s.pressure) (q : Nat) : (t.port q).SamePressure (s.port q) :=
  congrFun (congrArg Prod.snd h) q

theorem State.profileAt_of_pressure (h : t.pressure = s.pressure) (n : Nat) : t.profileAt n = s.profileAt n :=
  congrArg (fun table => Table.get Profile.reset table n) (congrArg Prod.fst h)

theorem State.mode_of_pressure (h : t.pressure = s.pressure) (q : Nat) : (t.port q).mode = (s.port q).mode :=
  congrArg (fun x => (x.2 q).mode) h

theorem State.TimersAgree.congr (hs : s.TimersAgree) (h : t.pressure = s.pressure) : t.TimersAgree := fun q => by
  obtain ⟨-, -, -, -, htimers⟩ := (State.port_of_pressure h q).agree
  rw [htimers]
  exact hs q

theorem State.ProfilesLegal.congr (hs : s.ProfilesLegal) (h : t.pressure = s.pressure) : t.ProfilesLegal := fun n => by
  rw [State.profileAt_of_pressure h]
  exact hs n

theorem State.FlightBounded.congr (hs : s.FlightBounded) (h : t.pressure = s.pressure) : t.FlightBounded :=
  fun q hq he => by
    obtain ⟨henabled, hprofile, hflight, -, -⟩ := (State.port_of_pressure h q).agree
    have hnamed : t.profileOf q = s.profileOf q := by
      rw [State.profileOf, State.profileAt_of_pressure h, hprofile]
      rfl
    rw [hnamed, hflight]
    exact hs q hq (henabled ▸ he)

/-! ## The timers of a moved port -/

/-- A port with what its timers' law does not read at 0: F, O, the effective floor and the class queues. -/
def Port.bare (pt : Port) : Port := { pt with flight := 0, outstanding := 0, effFloor := 0, queues := [] }

theorem Port.bare_formed (pf : Profile) (h : pt.timersAgree = true) : pt.bare.Formed 48 pf where
  flight := Nat.zero_le _
  outstanding := Nat.zero_le _
  effFloor := Nat.zero_le _
  range h48 := absurd h48 (Nat.lt_irrefl 48)
  timers := h
  queues := Table.wf_nil _

theorem Port.dwellFall_timers (pf : Profile) {now : Time} (hdue : pt.dwell.isDue now = true) (h : pt.timersAgree = true) :
    (pt.dwellFall pf now).timersAgree = true :=
  (Port.dwellFall_formed (p := 48) (pf := pf) (pt := pt.bare) hdue (Port.bare_formed pf h)).timers

theorem Port.goStale_timers {now : Time} (hdue : due now pt.staleAt = true) (h : pt.timersAgree = true) :
    (pt.goStale now).timersAgree = true :=
  (Port.goStale_formed (p := 48) (pt := pt.bare) hdue (Port.bare_formed Profile.reset h)).timers

theorem Port.bring_timers (pf : Profile) (f : Int) (pt : Port) : (pt.bring pf f).timersAgree = pt.timersAgree := by
  rw [(Port.bring_spec pf f pt).2.2]
  rfl

theorem Port.report_timers (pf : Profile) (now : Time) (depth : Nat) (he : pt.enabled = true)
    (h : pt.timersAgree = true) : (pt.report pf now depth).timersAgree = true := by
  show (((pt.freshen pf now).climb pf now depth).stepFlight pf).timersAgree = true
  rw [Port.stepFlight_eq]
  exact Port.climb_timers depth he h

theorem Port.setProfile_timers (n : BitVec 3) (pf : Profile) (pt : Port) :
    (pt.setProfile n pf).timersAgree = pt.timersAgree := by
  unfold Port.setProfile
  dsimp only
  split
  · exact Port.bring_timers ..
  · rfl

/-- A command's change of a port keeps its timers in agreement (R98, R104, R107, R108). -/
theorem State.Moves.timersAgree (h : s.Moves c p v) (hs : (s.port p).timersAgree = true) : v.timersAgree = true := by
  cases h with
  | report port depth he => exact Port.report_timers _ _ _ he hs
  | dwellFall _ hdue => exact Port.dwellFall_timers _ hdue hs
  | goStale _ hdue => exact Port.goStale_timers hdue hs
  | enable port tag => rfl
  | disable port tag => rfl
  | profileNumber value _ n => exact (Port.setProfile_timers ..).trans hs
  | adminFloor value _ floor => exact hs
  | clearFlags => exact hs

theorem State.TimersAgree.exec (hs : s.TimersAgree) (ht : exec c s = .next t) : t.TimersAgree := by
  obtain ⟨-, h⟩ | h := exec_pressure ht
  · exact State.TimersAgree.congr resetIsSafe.timers h
  cases h with
  | stands h => exact hs.congr h
  | moves p v hv h =>
    refine State.TimersAgree.congr (fun q => ?_) h
    rw [State.port_setPort]
    split
    · exact hv.timersAgree (hs p)
    · exact hs q
  | stores n w value _ _ h => exact State.TimersAgree.congr (s := s.setProfile n _) hs h
  | clamps n value u _ _ hports h =>
    refine State.TimersAgree.congr (fun q => ?_) h
    rw [hports]
    split
    · exact (Port.bring_timers ..).trans (hs q)
    · exact hs q

/-! ## The flight limit of a moved port -/

/-- F of an enabled port lies between F_min and F_maxe of the profile (R112). -/
def Port.InBounds (pf : Profile) (pt : Port) : Prop :=
  pt.enabled = true → pf.fMin.toNat ≤ pt.flight ∧ pt.flight ≤ pf.fMaxe

theorem Port.bring_inBounds (pf : Profile) (f : Int) (pt : Port) : (pt.bring pf f).InBounds pf := fun _ =>
  ⟨(Port.bring_spec pf f pt).1, (Port.bring_spec pf f pt).2.1⟩

theorem Port.report_inBounds (pf : Profile) (now : Time) (depth : Nat) (pt : Port) :
    (pt.report pf now depth).InBounds pf := fun _ =>
  have hclimb := Port.bring_spec pf (((pt.freshen pf now).climb pf now depth).stepped pf)
    ((pt.freshen pf now).climb pf now depth)
  ⟨hclimb.1, hclimb.2.1⟩

theorem Port.enable_inBounds (pf : Profile) (now : Time) (pt : Port) : (pt.enable pf now).InBounds pf := fun _ => by
  show pf.fMin.toNat ≤ pf.startFlight ∧ pf.startFlight ≤ pf.fMaxe
  unfold Profile.startFlight Profile.fMaxe
  omega

theorem Port.bring_profile (pf : Profile) (f : Int) (pt : Port) : (pt.bring pf f).profile = pt.profile := by
  rw [(Port.bring_spec pf f pt).2.2]

theorem Port.setProfile_profile (n : BitVec 3) (pf : Profile) (pt : Port) : (pt.setProfile n pf).profile = n := by
  unfold Port.setProfile
  dsimp only
  split
  · exact Port.bring_profile ..
  · rfl

theorem Port.setProfile_inBounds (n : BitVec 3) (pf : Profile) (pt : Port) : (pt.setProfile n pf).InBounds pf := by
  unfold Port.setProfile
  dsimp only
  split
  · exact Port.bring_inBounds _ _ _
  · rename_i hoff
    exact fun hon => absurd hon hoff

/-- A command's change of a port keeps F within the bounds of the profile that the port then names (R98, R112, R157). -/
theorem State.Moves.inBounds (h : s.Moves c p v) (hs : (s.port p).InBounds (s.profileOf p)) :
    v.InBounds (s.profileAt v.profile.toNat) := by
  cases h with
  | report port depth =>
    rw [(Port.report_same ..).2.1]
    exact Port.report_inBounds _ _ _ _
  | dwellFall => exact hs
  | goStale => exact hs
  | enable port tag => exact Port.enable_inBounds _ _ _
  | disable port tag => exact nofun
  | profileNumber value _ n =>
    rw [Port.setProfile_profile]
    exact Port.setProfile_inBounds _ _ _
  | adminFloor value _ floor => exact hs
  | clearFlags => exact hs

/-! ## The flight limits and the stored values of the profiles -/

theorem State.ProfilesLegal.setProfile (hs : s.ProfilesLegal) (n w : Nat) (value : Word) :
    (s.setProfile n ((s.profileAt n).store w value)).ProfilesLegal := fun j => by
  rw [State.profileAt_setProfile]
  split
  · exact Profile.store_legal (hs n) w value
  · exact hs j

theorem State.FlightBounded.setPort (hs : s.FlightBounded) (hv : p < 48 → v.InBounds (s.profileAt v.profile.toNat)) :
    (s.setPort p v).FlightBounded := fun q hq => by
  rw [State.profileOf_setPort, State.port_setPort]
  split
  · rename_i hqp
    exact hv (hqp ▸ hq)
  · exact hs q hq

/-- A write of a word other than word 4 leaves the bounds (R154). -/
theorem State.FlightBounded.setProfile (hs : s.FlightBounded) (n : Nat) {w : Nat} (hw : w ≠ 4) (value : Word) :
    (s.setProfile n ((s.profileAt n).store w value)).FlightBounded := fun q hq he => by
  obtain ⟨hmin, hmax⟩ := Profile.store_bounds (s.profileAt n) hw value
  have hrange := hs q hq he
  show ((s.setProfile n _).profileAt (s.port q).profile.toNat).fMin.toNat ≤ (s.port q).flight ∧
    (s.port q).flight ≤ ((s.setProfile n _).profileAt (s.port q).profile.toNat).fMaxe
  rw [State.profileAt_setProfile]
  split
  · rename_i hn
    rw [hmin, hmax, ← hn]
    exact hrange
  · exact hrange

/-- A write of word 4 brings F of each enabled port that names the profile into the new bounds (R154). -/
theorem State.FlightBounded.clamp (hs : s.FlightBounded) {n : Nat} {pf : Profile} {u : State}
    (hprofiles : u.profiles = (s.setProfile n pf).profiles)
    (hports : ∀ q, u.port q = if q < 48 ∧ (s.port q).enabled = true ∧ (s.port q).profile.toNat = n
      then (s.port q).bring pf (s.port q).flight else s.port q) : u.FlightBounded := fun q hq => by
  have hread : ∀ j, u.profileAt j = if j = n then pf else s.profileAt j := fun j => by
    rw [State.profileAt, hprofiles]
    exact State.profileAt_setProfile s n j pf
  show (u.port q).InBounds (u.profileAt (u.port q).profile.toNat)
  rw [hread, hports]
  split
  · rename_i hc
    obtain ⟨-, -, hn⟩ := hc
    rw [Port.bring_profile, if_pos hn]
    exact Port.bring_inBounds _ _ _
  · rename_i hc
    split
    · rename_i hn
      exact fun he => absurd ⟨hq, he, hn⟩ hc
    · exact hs q hq

theorem State.FlightBounded.exec (hlegal : s.ProfilesLegal) (hs : s.FlightBounded) (ht : exec c s = .next t) :
    t.ProfilesLegal ∧ t.FlightBounded := by
  obtain ⟨-, h⟩ | h := exec_pressure ht
  · exact ⟨State.ProfilesLegal.congr resetIsSafe.profiles h, State.FlightBounded.congr resetIsSafe.flight h⟩
  cases h with
  | stands h => exact ⟨hlegal.congr h, hs.congr h⟩
  | moves p v hv h =>
    exact ⟨State.ProfilesLegal.congr (s := s.setPort p v) hlegal h, (hs.setPort fun hp => hv.inBounds (hs p hp)).congr h⟩
  | stores n w value _ hw h => exact ⟨(hlegal.setProfile n w value).congr h, (hs.setProfile n hw value).congr h⟩
  | clamps n value u _ hprofiles hports h =>
    have hu : u.ProfilesLegal := fun j => by
      rw [State.profileAt, hprofiles]
      exact hlegal.setProfile n 4 value j
    exact ⟨hu.congr h, (hs.clamp hprofiles hports).congr h⟩

/-! ## The ways down for a mode -/

theorem Mode.level_lower (m : Mode) : m.lower.level = m.level - 1 := by cases m <;> rfl

/-- A report never lowers the mode (R102). -/
theorem Port.level_le_climbed (pf : Profile) (depth : Nat) (pt : Port) : pt.mode.level ≤ (pt.climbed pf depth).level := by
  unfold Port.climbed
  split
  · rename_i hup
    exact Nat.le_of_lt hup
  · exact Nat.le_refl _

/-- A dwell timer that is due runs, and the timer of a STALE port does not (R107, R108). -/
theorem Port.stale_of_isDue {now : Time} (h : pt.timersAgree = true) (hdue : pt.dwell.isDue now = true) :
    pt.stale = false := by
  unfold Port.timersAgree at h
  cases hd : pt.dwell with
  | absent => rw [hd] at hdue; cases hdue
  | suspended r => rw [hd] at hdue; cases hdue
  | armed d => cases he : pt.enabled <;> simp_all

theorem Port.bring_mode (pf : Profile) (f : Int) (pt : Port) : (pt.bring pf f).mode = pt.mode := by
  rw [(Port.bring_spec pf f pt).2.2]

theorem Port.setProfile_mode (n : BitVec 3) (pf : Profile) (pt : Port) : (pt.setProfile n pf).mode = pt.mode := by
  unfold Port.setProfile
  dsimp only
  split
  · exact Port.bring_mode ..
  · rfl

/-- A command that lowers a port's mode is ENABLE_PORT of the port or its dwell expiry (R105). -/
theorem State.Moves.lowers (h : s.Moves c p v) (hs : (s.port p).timersAgree = true)
    (hfall : v.mode.level < (s.port p).mode.level) :
    (∃ tag, c = .enablePort (BitVec.ofNat 8 p) tag ∧ v.mode = .calm) ∨
      (c = .dwellExpiry p ∧ v.mode.level + 1 = (s.port p).mode.level ∧ (s.port p).stale = false) := by
  cases h with
  | report port depth =>
    rw [Port.report_mode] at hfall
    exact absurd hfall (Nat.not_lt.2 (Port.level_le_climbed ..))
  | dwellFall _ hdue =>
    have hlower : ((s.port p).dwellFall (s.profileOf p) s.timebase).mode.level = (s.port p).mode.level - 1 :=
      Mode.level_lower _
    exact .inr ⟨rfl, by omega, Port.stale_of_isDue hs hdue⟩
  | enable port tag => exact .inl ⟨tag, by simp, rfl⟩
  | profileNumber value _ n =>
    rw [Port.setProfile_mode] at hfall
    exact absurd hfall (Nat.lt_irrefl _)
  | goStale => exact absurd hfall (Nat.lt_irrefl _)
  | disable port tag => exact absurd hfall (Nat.lt_irrefl _)
  | adminFloor value _ floor => exact absurd hfall (Nat.lt_irrefl _)
  | clearFlags => exact absurd hfall (Nat.lt_irrefl _)

end

/-! ## The obligations -/

/-- Settles O7: the timers agree after part reset, after each change of a port, and where the pressure stands. -/
theorem portTimersKept : Obligations.PortTimersKept := fun _ _ h hstep =>
  State.step_keeps (P := State.TimersAgree) (fun _ _ _ hs ht => hs.exec ht) (fun _ _ hs => hs) h hstep

/-- Settles O6: each change of a port brings F into the bounds of the profile it names or leaves both, and a write of the
bounds clamps the ports. -/
theorem flightBoundsKept : Obligations.FlightBoundsKept := fun _ _ hlegal h hstep =>
  State.step_keeps (P := fun s => s.ProfilesLegal ∧ s.FlightBounded) (fun _ _ _ hs ht => hs.2.exec hs.1 ht)
    (fun _ _ hs => hs) ⟨hlegal, h⟩ hstep

/-- Settles O10: of the changes of a port, an enabling and a dwell expiry alone can lower the mode. -/
theorem modeFallsByDwellAlone : Obligations.ModeFallsByDwellAlone := by
  intro c s t p hs ht hfall
  obtain ⟨hreset, -⟩ | h := exec_pressure ht
  · exact .inl hreset
  cases h with
  | stands h =>
    rw [State.mode_of_pressure h] at hfall
    exact absurd hfall (Nat.lt_irrefl _)
  | moves q v hv h =>
    have hmode : (t.port p).mode = ((s.setPort q v).port p).mode := State.mode_of_pressure h p
    rw [State.port_setPort] at hmode
    split at hmode
    · rename_i hpq
      subst hpq
      rw [hmode] at hfall ⊢
      exact .inr (hv.lowers (hs p) hfall)
    · rw [hmode] at hfall
      exact absurd hfall (Nat.lt_irrefl _)
  | stores n w value _ _ h =>
    have hmode : (t.port p).mode = (s.port p).mode := State.mode_of_pressure h p
    rw [hmode] at hfall
    exact absurd hfall (Nat.lt_irrefl _)
  | clamps n value u _ _ hports h =>
    have hmode : (t.port p).mode = (s.port p).mode := by
      rw [State.mode_of_pressure h, hports]
      split
      · exact Port.bring_mode ..
      · rfl
    rw [hmode] at hfall
    exact absurd hfall (Nat.lt_irrefl _)

end Sys2Proof.Machine

/-! The host's commands on one port's pressure and settings: ENABLE_PORT, and the writes of the profile number and of the
admin floor (R98, R114 to R116, R157 to R159, R173, R174). -/

namespace Sys2Proof.Machine

/-! ## ENABLE_PORT -/

/-- An enabled port is CALM, so enabling leaves SURGE exactly where the port held it (R98, R116). -/
theorem Port.leavesSurge_enable (pf : Profile) (now : Time) (pt : Port) :
    leavesSurge pt (pt.enable pf now) = decide (pt.mode = .surge) := Bool.and_true _

theorem State.enableAt_of_enabled {s : State} {p : Nat} (h : (s.port p).enabled = true) : s.enableAt p = s := if_pos h

theorem State.enableAt_of_disabled {s : State} {p : Nat} (h : (s.port p).enabled = false) :
    s.enableAt p = if (s.port p).mode = .surge then
        (s.setPort p ((s.port p).enable (s.profileOf p) s.timebase)).mapMeters (Meter.surgeExited p)
      else s.setPort p ((s.port p).enable (s.profileOf p) s.timebase) := by
  simp [State.enableAt, h, Port.leavesSurge_enable, State.surgeExit]

/-- Enabling a port leaves COMMAND_RESULT, which the end of the command writes (R173). -/
theorem State.enableAt_result (s : State) (p : Nat) : (s.enableAt p).result = s.result := by
  unfold State.enableAt
  dsimp only
  split
  · rfl
  · split <;> rfl

/-- Settles O48: the enabling by the port's enable state, and COMMAND and COMMAND_RESULT at the end of the command. -/
theorem enablePort : Obligations.EnablePort := by
  intro s port tag p pt pf fMin u done
  have hdone : ∀ (r : Result) (v : State), v.result = s.result → v.finishCommand 1#8 port tag r = done r v :=
    fun r v hv => by rw [State.finishCommand_eq, hv]
  have hrun : p < 48 → exec (.enablePort port tag) s = .next (done .ok (s.enableAt p)) := fun hp => by
    rw [← hdone .ok _ (s.enableAt_result p)]
    exact congrArg Host.Outcome.next (if_pos hp)
  refine ⟨fun hp => ?_, fun hp hon => ?_, fun hp hoff => ?_⟩
  · rw [← hdone .portRange s rfl]
    exact congrArg Host.Outcome.next (if_neg (Nat.not_lt.2 hp))
  · rw [hrun hp, State.enableAt_of_enabled hon]
  · have hset : s.setPort p ((s.port p).enable (s.profileOf p) s.timebase) = u := by
      unfold Port.enable
      rw [armUnlessZero_toNat]
      rfl
    rw [hrun hp, State.enableAt_of_disabled hoff, hset]

/-! ## PROFILE_NUMBER_WRITE and ADMIN_FLOOR_WRITE -/

/-- F brought into its bounds, with the flags (R112). -/
theorem Port.bring_eq (pf : Profile) (pt : Port) (n : Nat) : pt.bring pf n = { pt with
    flight := min (max n pf.fMin.toNat) pf.fMaxe
    atFloor := pt.atFloor || decide (n < pf.fMin.toNat)
    atCeiling := pt.atCeiling || decide (pf.fMaxe < n) } := by
  have hmax : pf.fMin.toNat ≤ pf.fMaxe := Nat.le_max_right _ _
  unfold Port.bring
  simp only [Int.ofNat_lt]
  by_cases hlow : n < pf.fMin.toNat
  · have hclamped : min (max n pf.fMin.toNat) pf.fMaxe = pf.fMin.toNat := by omega
    simp [hlow, hclamped, Nat.not_lt.2 (Nat.le_trans (Nat.le_of_lt hlow) hmax)]
  · by_cases hhigh : pf.fMaxe < n
    · have hclamped : min (max n pf.fMin.toNat) pf.fMaxe = pf.fMaxe := by omega
      simp [hlow, hhigh, hclamped]
    · have hclamped : min (max n pf.fMin.toNat) pf.fMaxe = n := by omega
      simp [hlow, hhigh, hclamped]

/-- A port given a profile number: on an enabled port F is brought into the profile's bounds (R157). -/
theorem Port.setProfile_eq (n : BitVec 3) (pf : Profile) (pt : Port) : pt.setProfile n pf =
    if pt.enabled then { pt with
      profile := n
      flight := min (max pt.flight pf.fMin.toNat) pf.fMaxe
      atFloor := pt.atFloor || decide (pt.flight < pf.fMin.toNat)
      atCeiling := pt.atCeiling || decide (pf.fMaxe < pt.flight) }
    else { pt with profile := n } := by
  unfold Port.setProfile
  dsimp only
  rw [Port.bring_eq]

/-- Where the effective floor stands, a risen F alone gives notice (R113). -/
theorem givesNotice_of_effFloor {old new : Port} (h : new.effFloor = old.effFloor) :
    givesNotice old new = decide (old.flight < new.flight) := by simp [givesNotice, h]

/-- Where F stands, a fallen effective floor alone gives notice (R113). -/
theorem givesNotice_of_flight {old new : Port} (h : new.flight = old.flight) :
    givesNotice old new = decide (new.effFloor < old.effFloor) := by simp [givesNotice, h]

/-- The write of a profile number gives notice where F rose, which it does on no disabled port (R113, R157). -/
theorem Port.setProfile_notice (n : BitVec 3) (pf : Profile) (pt : Port) :
    (pt.enabled && givesNotice pt (pt.setProfile n pf)) = decide (pt.flight < (pt.setProfile n pf).flight) := by
  rw [Port.setProfile_eq]
  cases pt.enabled
  · exact (decide_eq_false (Nat.lt_irrefl _)).symm
  · exact givesNotice_of_effFloor rfl

/-- Settles O56: `Port.setProfile_eq` gives the port of a new profile, and each write's notice is F's or the floor's alone. -/
theorem portSettingWrites : Obligations.PortSettingWrites := by
  constructor
  · intro s p value h pt n pf fMaxe new
    have hnew : pt.setProfile n pf = new := Port.setProfile_eq ..
    have hrun : exec (.profileNumberWrite value) s = .next (State.passIf
        (pt.enabled && givesNotice pt (pt.setProfile n pf)) p (s.advance.setPort p (pt.setProfile n pf))) := by
      simp only [exec, execProfileNumberWrite, h, field_zero]
      rfl
    rw [hrun, Port.setProfile_notice, hnew]
    rfl
  · intro s p value h pt floor new
    have hrun : exec (.adminFloorWrite value) s = .next (State.passIf (pt.enabled && givesNotice pt new) p
        (s.advance.setPort p new)) := by
      simp only [exec, execAdminFloorWrite, h, field_zero]
      rfl
    have hnotice : givesNotice pt new = decide (new.effFloor < pt.effFloor) := givesNotice_of_flight rfl
    rw [hrun, hnotice, Bool.decide_and, Bool.decide_coe]
    rfl

end Sys2Proof.Machine

/-! Draw scheduling: the outstanding draw totals after every step, a changed record's place on the class queues, and the
order in which the Emission Arbiter discards, hands places and runs the passes of an event (R121 to R128, R138 to R144). -/

namespace Sys2Proof.Machine

/-! ## The outstanding draw totals -/

/-- Settles O8: among the laws of a safe state, which every step keeps, is that of the outstanding draw totals. -/
theorem drawsAccountedKept : Obligations.DrawsAccountedKept :=
  fun s t hsafe hstep => (safetyKept s t hsafe hstep).draws

/-! ## The place on the class queues -/

/-- A record keeps its place where it is queued before and after in one class (R126). -/
theorem keepsPlace_iff {old new : Gather} :
    keepsPlace old new = true ↔ old.queued = true ∧ new.queued = true ∧ old.cls = new.cls := by
  simp [keepsPlace, and_assoc]

/-- Class queues that agree with the records agree with them after the change of a record (R123). -/
theorem State.queuesAgree_putGather {s : State} {k : Nat} {old new : Gather} (hq : s.QueuesAgree)
    (hg : s.gather? k = some old) (hport : new.port = old.port) : (s.putGather k old new).QueuesAgree := by
  intro p hp c
  obtain ⟨hrec, hothers, -⟩ := State.putGather_cases s k old new hport
  obtain ⟨hn, hother, hself⟩ := State.putGather_queues hq hg hport hp c
  refine ⟨hn, fun j => ?_⟩
  by_cases hj : j = k
  · subst hj
    have hnew : (s.putGather j old new).gather? j = some new := congrArg Slot.body hrec
    rw [hself, hnew]
    simp
  · rw [hother j hj, State.gather?_congr (hothers j hj)]
    exact (hq p hp c).2 j

/-- Settles O38: `State.putGather_cases` gives the place by `keepsPlace`, which is that the record stays. -/
theorem classQueuePlace : Obligations.ClassQueuePlace := by
  intro s k old new hg hport t stays
  obtain ⟨hrec, hothers, hports, hself, hframe, hqueue⟩ := State.putGather_cases s k old new hport
  refine ⟨hrec, hothers, hports, hself, hframe, fun hstays c => ?_, fun hmoves c => ?_,
    fun hq => State.queuesAgree_putGather hq hg hport⟩
  · exact (hqueue c).trans (if_pos (keepsPlace_iff.2 hstays))
  · exact (hqueue c).trans (if_neg fun hkeep => hmoves (keepsPlace_iff.1 hkeep))

/-! ## The discard of a stale head entry -/

section
variable {s : State} {e : Emission} {rest : List Emission}

theorem exec_staleDiscard_stale (h : s.link = .up) (hc : 0 < s.credit) (hemq : s.emq = e :: rest)
    (hv : s.validMember e = none) :
    exec .staleDiscard s = .next (State.handPlace 0 false { s with emq := rest }) := by
  simp [exec, execStaleDiscard, State.takeableEntry_of_up h hc hemq, hv, hemq]

theorem exec_drawEmission_stale (h : s.link = .up) (hc : 0 < s.credit) (hemq : s.emq = e :: rest)
    (hv : s.validMember e = none) : exec .drawEmission s = .next s := by
  simp [exec, execDrawEmission, State.takeableEntry_of_up h hc hemq, hv]

end

/-! ## The handing of a freed place -/

/-- No port is handed a place where none is blocked (R142). -/
theorem State.nextHanded_none {s : State} (hb : ∀ p, p < 48 → (s.port p).blocked = false) : s.nextHanded = none :=
  List.find?_eq_none.2 fun p hp => by simp [hb p (roundRobin_lt _ _ hp)]

/-- The port handed a place is the blocked port at the least distance after the pointer: every port before it in the
round-robin order is nearer, so none of them is blocked (R142). -/
theorem State.nextHanded_first {s : State} {h : Nat} (hptr : s.pointer < 48) (hh : h < 48)
    (hb : (s.port h).blocked = true) (hfirst : ∀ j, j < 48 → (s.port j).blocked = true →
      (h + 47 - s.pointer) % 48 ≤ (j + 47 - s.pointer) % 48) : s.nextHanded = some h := by
  obtain ⟨before, behind, hsplit⟩ := List.append_of_mem (mem_roundRobin s.pointer h hh)
  have hsorted := roundRobin_sooner s.pointer hptr
  have hrange : ∀ j ∈ before, j < 48 := fun j hj =>
    roundRobin_lt s.pointer j (hsplit ▸ List.mem_append_left _ hj)
  rw [hsplit] at hsorted
  have hsooner := (List.pairwise_append.1 hsorted).2.2
  refine List.find?_eq_some_iff_append.2 ⟨hb, before, behind, hsplit, fun j hj => ?_⟩
  have hnear := hsooner j hj h List.mem_cons_self
  cases hbj : (s.port j).blocked with
  | false => rfl
  | true => exact absurd (hfirst j (hrange j hj) hbj) (Nat.not_le.2 hnear)

theorem State.handPlace_of_none {s : State} (h : s.nextHanded = none) (p : Nat) (call : Bool) :
    s.handPlace p call = s.passIf call p := by
  simp only [State.handPlace, h]

theorem State.handPlace_of_some {s : State} {h : Nat} (hn : s.nextHanded = some h) (p : Nat) (call : Bool) :
    s.handPlace p call = ((s.handTo h).drawPass h).passIf (call && decide (p ≠ h)) p := by
  simp only [State.handPlace, hn]

/-! ## Several ports in round-robin order -/

/-- The ports that `f` picks out of the round-robin order are in that order (R128). -/
theorem roundRobin_filter_sooner {pointer : Nat} (hptr : pointer < 48) (f : Nat → Bool) :
    ((roundRobin pointer).filter f).Pairwise fun p q => (p + 47 - pointer) % 48 < (q + 47 - pointer) % 48 :=
  (roundRobin_sooner pointer hptr).filter f

/-- The round-robin order names every port (R128). -/
theorem mem_roundRobin_iff {pointer p : Nat} : p ∈ roundRobin pointer ↔ p < 48 :=
  ⟨roundRobin_lt pointer p, mem_roundRobin pointer p⟩

/-- The round-robin order names each port once (R128). -/
theorem roundRobin_nodup {pointer : Nat} (hptr : pointer < 48) : (roundRobin pointer).Nodup := by
  refine (roundRobin_sooner pointer hptr).imp ?_
  rintro p _ hsooner rfl
  exact Nat.lt_irrefl _ hsooner

/-- The passes of an event leave the arbiter's pointer (R128). -/
theorem State.passes_pointer (s : State) (called : List Nat) : (s.passes called).pointer = s.pointer :=
  State.passes_keeps called (fun t => t.pointer = s.pointer) (fun t p _ _ h => (t.drawPass_pointer p).trans h) s rfl

/-! ## The serving that follows a link reset -/

/-- One port served by the flags `blocked` of an earlier state (R144). -/
def State.serveBy (blocked : Nat → Bool) (s : State) (p : Nat) : State :=
  if blocked p = true then (s.handTo p).drawPass p else s.drawPass p

theorem State.serve_eq_serveBy {s : State} {p : Nat} {blocked : Nat → Bool} (h : (s.port p).blocked = blocked p) :
    s.serve p = s.serveBy blocked p := by
  unfold State.serve State.serveBy
  rw [h]
  split <;> rfl

/-- Serving a port leaves the other ports (R134, R144). -/
theorem State.port_serveBy_other (blocked : Nat → Bool) (s : State) {p q : Nat} (hq : q ≠ p) :
    (s.serveBy blocked p).port q = s.port q := by
  have hpass : ∀ t : State, (t.drawPass p).port q = t.port q := fun t => by
    obtain ⟨new, hdraws⟩ := t.drawPass_draws p
    exact hdraws.otherPorts q hq
  unfold State.serveBy
  split
  · exact (hpass _).trans ((State.port_setPort ..).trans (if_neg hq))
  · exact hpass s

theorem State.serveBy_pointer (blocked : Nat → Bool) (s : State) (p : Nat) :
    (s.serveBy blocked p).pointer = if blocked p = true then p else s.pointer := by
  unfold State.serveBy
  split <;> exact State.drawPass_pointer _ _

/-- Ports that are each served once are served by the flags that they have at the start: a serving changes no flag of a
port behind it. -/
theorem State.foldl_serve_eq {blocked : Nat → Bool} {order : List Nat} (hn : order.Nodup) (s : State)
    (h : ∀ p ∈ order, (s.port p).blocked = blocked p) :
    order.foldl State.serve s = order.foldl (State.serveBy blocked) s := by
  induction order generalizing s with
  | nil => rfl
  | cons p rest ih =>
    obtain ⟨hp, hrest⟩ := List.nodup_cons.1 hn
    rw [List.foldl_cons, List.foldl_cons, State.serve_eq_serveBy (h p List.mem_cons_self)]
    refine ih hrest _ fun q hq => ?_
    rw [State.port_serveBy_other blocked s (ne_of_mem_of_not_mem hq hp)]
    exact h q (List.mem_cons_of_mem _ hq)

/-- The pointer ends at the last blocked port served (R144). -/
theorem State.foldl_serveBy_pointer (blocked : Nat → Bool) (order : List Nat) (s : State) :
    (order.foldl (State.serveBy blocked) s).pointer = (order.filter blocked).getLast?.getD s.pointer := by
  induction order generalizing s with
  | nil => rfl
  | cons p rest ih =>
    rw [List.foldl_cons, ih, State.serveBy_pointer]
    cases hp : blocked p with
    | false => simp [hp]
    | true => simp [hp, List.getLast?_cons]

/-- The serving is by the flags of the state that it begins in (R144). -/
theorem State.serveAll_eq (s : State) (called : List Nat) (hptr : s.pointer < 48) :
    s.serveAll called = ((roundRobin s.pointer).filter fun p => decide (p ∈ called) || (s.port p).blocked).foldl
      (State.serveBy fun p => (s.port p).blocked) s :=
  State.foldl_serve_eq ((roundRobin_nodup hptr).filter _) s fun _ _ => rfl

/-- Settles O40: the discard, the handing by `State.nextHanded_first`, and the passes and servings over selections from the
round-robin order. -/
theorem staleEntryDiscardedAndPlaceHanded : Obligations.StaleEntryDiscardedAndPlaceHanded := by
  refine ⟨fun s e rest h hc hemq hv =>
      ⟨exec_staleDiscard_stale h hc hemq hv, exec_drawEmission_stale h hc hemq hv⟩,
    fun s p call => ⟨fun hb => State.handPlace_of_none (State.nextHanded_none hb) p call,
      fun h hptr hh hb hfirst => State.handPlace_of_some (State.nextHanded_first hptr hh hb hfirst) p call⟩, ?_⟩
  intro s called hptr sooner
  have hserve := s.serveAll_eq called hptr
  refine ⟨⟨_, roundRobin_filter_sooner hptr _, fun p => ?_, rfl, s.passes_pointer called⟩,
    ⟨_, roundRobin_filter_sooner hptr _, fun p => ?_, hserve, ?_⟩⟩
  · simp [mem_roundRobin_iff]
  · simp [mem_roundRobin_iff]
  · rw [hserve]
    exact State.foldl_serveBy_pointer ..

end Sys2Proof.Machine

/-! The words of a profile as the host writes and reads them, and the writes of them through TABLE_SELECT: the fields stored
with their replacements, and the clamp of a write of the bounds (R150 to R154, R174, R175). -/

namespace Sys2Proof.Machine

/-! ## Fields side by side in a word -/

/-- Bits placed together are placed one above the other. -/
theorem place_append {high low : Nat} (lo : Nat) (x : BitVec high) (y : BitVec low) :
    place lo (x ++ y) = place (lo + low) x ||| place lo y := by
  ext i hi
  grind [place]

/-- The bits of no field hold zeros. -/
theorem place_zeros (lo width : Nat) : place lo 0#width = 0#32 := by simp [place]

theorem place_word (w : Word) : place 0 w = w := by simp [place]

/-- A field written back at its own bits keeps those bits of the word and clears the others. -/
theorem place_field (w : Word) (lo width : Nat) :
    place lo (field w lo width) = w &&& place lo (BitVec.allOnes width) := by
  ext i hi
  grind [place, field]

/-- Two fields of a word that lie side by side are one field of it. -/
theorem field_append (w : Word) (lo low high : Nat) :
    field w (lo + low) high ++ field w lo low = field w lo (high + low) :=
  BitVec.extractLsb'_append_extractLsb'_eq_extractLsb' rfl

theorem field_word (w : Word) : field w 0 32 = w := BitVec.extractLsb'_eq_self

/-! ## The layouts of the profile words -/

section
variable (pf : Profile)

theorem Profile.word_zero : pf.word 0 = pf.m1 ++ pf.m2 :=
  Eq.trans (by simp only [Profile.word, place_append]) (place_word _)

theorem Profile.word_one : pf.word 1 = pf.m3 ++ pf.hysteresis :=
  Eq.trans (by simp only [Profile.word, place_append]) (place_word _)

theorem Profile.word_two : pf.word 2 = pf.dwellFill ++ pf.dwellCrowd :=
  Eq.trans (by simp only [Profile.word, place_append]) (place_word _)

theorem Profile.word_three : pf.word 3 = pf.dwellSurge ++ pf.staleTime :=
  Eq.trans (by simp only [Profile.word, place_append]) (place_word _)

theorem Profile.word_four : pf.word 4 = 0#2 ++ pf.fMin ++ 0#2 ++ pf.fMax :=
  Eq.trans (by simp only [Profile.word, place_append, place_zeros, BitVec.zero_or, BitVec.or_zero]) (place_word _)

theorem Profile.word_five : pf.word 5 = 0#1 ++ pf.floors.calm ++ 0#1 ++ pf.floors.fill ++ 0#1 ++ pf.floors.crowd ++ 0#1 ++
    pf.floors.surge ++ 0#2 ++ pf.fInit :=
  Eq.trans (by simp only [Profile.word, place_append, place_zeros, BitVec.zero_or, BitVec.or_zero]) (place_word _)

theorem Profile.word_six : pf.word 6 = 0#4 ++ pf.sUp ++ 0#4 ++ pf.sDown :=
  Eq.trans (by simp only [Profile.word, place_append, place_zeros, BitVec.zero_or, BitVec.or_zero]) (place_word _)

theorem Profile.word_seven : pf.word 7 = pf.quantum ++ pf.refill ++ pf.drawLifetime :=
  Eq.trans (by simp only [Profile.word, place_append]) (place_word _)

theorem Profile.word_eight : pf.word 8 = 0#3 ++ pf.shares.calm ++ 0#3 ++ pf.shares.fill ++ 0#3 ++ pf.shares.crowd ++ 0#3 ++
    pf.shares.surge :=
  Eq.trans (by simp only [Profile.word, place_append, place_zeros, BitVec.zero_or, BitVec.or_zero]) (place_word _)

theorem Profile.word_nine : pf.word 9 = pf.caps.calm ++ pf.caps.fill ++ pf.caps.crowd ++ pf.caps.surge :=
  Eq.trans (by simp only [Profile.word, place_append]) (place_word _)

theorem Profile.word_ten : pf.word 10 = pf.idleTime ++ pf.lingerTime :=
  Eq.trans (by simp only [Profile.word, place_append]) (place_word _)

theorem Profile.word_eleven :
    pf.word 11 = pf.maxLifetime ++ 0#1 ++ pf.lapseLimit ++ 0#1 ++ pf.defaultClass ++ 0#8 :=
  Eq.trans (by simp only [Profile.word, place_append, place_zeros, BitVec.or_zero]) (place_word _)

theorem Profile.word_twelve : pf.word 12 = 0#16 ++
    pf.stray.calm.code ++ pf.stray.fill.code ++ pf.stray.crowd.code ++ pf.stray.surge.code ++
    pf.straggler.calm.code ++ pf.straggler.fill.code ++ pf.straggler.crowd.code ++ pf.straggler.surge.code :=
  Eq.trans (by simp only [Profile.word, verdictsWord, place_append, place_zeros, BitVec.zero_or, BitVec.or_assoc])
    (place_word _)

/-- Words after word 12 are no words of a profile and read as 0 (R174). -/
theorem Profile.word_beyond {i : Nat} (hi : 12 < i) : pf.word i = 0#32 := by
  obtain ⟨k, rfl⟩ := Nat.exists_eq_add_of_le' hi
  rfl

end

/-! ## Words read back as they are stored -/

/-- A verdict code 3 is stored as 2 (R153). -/
theorem Verdict.code_ofCode (c : BitVec 2) : (Verdict.ofCode c).code = if c = 3#2 then 2#2 else c := by decide +revert

section
variable (pf : Profile) (v : Word)

/-- A word shows its own fields alone, and a write of another word leaves those (R154): for each pair of words the two sides
are the same fields, or the pair is one word. -/
theorem Profile.word_store_other {i j : Nat} (h : i ≠ j) : (pf.store i v).word j = pf.word j := by
  unfold Profile.store
  split
  all_goals
    unfold Profile.word
    split <;> trivial

/-- Words 0, 1, 9 and 10 hold no replaced field and no bit without a field. -/
theorem Profile.word_store_plain {i : Nat} (hi : i = 0 ∨ i = 1 ∨ i = 9 ∨ i = 10) : (pf.store i v).word i = v := by
  have hhalves : field v 16 16 ++ field v 0 16 = v := (field_append v 0 16 16).trans (field_word v)
  have hbytes : field v 24 8 ++ field v 16 8 ++ field v 8 8 ++ field v 0 8 = v := by
    rw [field_append v 16 8 8, field_append v 8 8 16, field_append v 0 8 24, field_word]
  rcases hi with rfl | rfl | rfl | rfl
  · exact (Profile.word_zero _).trans hhalves
  · exact (Profile.word_one _).trans hhalves
  · exact (Profile.word_nine _).trans hbytes
  · exact (Profile.word_ten _).trans hhalves

theorem Profile.word_store_two : (pf.store 2 v).word 2 =
    atLeastOne ((v >>> 16).setWidth 16) ++ atLeastOne (v.setWidth 16) := by
  rw [← field_eq_shift, ← field_zero]
  exact Profile.word_two _

theorem Profile.word_store_three : (pf.store 3 v).word 3 = atLeastOne ((v >>> 16).setWidth 16) ++ v.setWidth 16 := by
  rw [← field_eq_shift, ← field_zero]
  exact Profile.word_three _

theorem Profile.word_store_four : (pf.store 4 v).word 4 =
    0#2 ++ atLeastOne ((v >>> 16).setWidth 14) ++ 0#2 ++ atLeastOne (v.setWidth 14) := by
  rw [← field_eq_shift, ← field_zero]
  exact Profile.word_four _

/-- The floors read back as written in the bits they hold (R151). -/
theorem Profile.word_store_five : (pf.store 5 v).word 5 =
    (v &&& 0x77770000#32) ||| (atLeastOne (v.setWidth 14)).setWidth 32 := by
  have hfloors : place 28 (field v 28 3) ||| place 24 (field v 24 3) ||| place 20 (field v 20 3) |||
      place 16 (field v 16 3) = v &&& 0x77770000#32 := by
    simp only [place_field, ← BitVec.and_or_distrib_left]
    rfl
  have hstart : place 0 (atLeastOne (field v 0 14)) = (atLeastOne (v.setWidth 14)).setWidth 32 := by
    rw [field_zero, place, BitVec.shiftLeft_zero]
  exact congrArg₂ (· ||| ·) hfloors hstart

theorem Profile.word_store_six : (pf.store 6 v).word 6 =
    0#4 ++ atLeastOne ((v >>> 16).setWidth 12) ++ 0#4 ++ atLeastOne (v.setWidth 12) := by
  rw [← field_eq_shift, ← field_zero]
  exact Profile.word_six _

theorem Profile.word_store_seven : (pf.store 7 v).word 7 = atLeastOne ((v >>> 24).setWidth 8) ++ v.setWidth 24 := by
  rw [← field_eq_shift, ← field_zero, ← field_append v 0 16 8]
  refine Eq.trans ?_ (place_word _)
  simp only [Profile.word, Profile.store, place_append, BitVec.or_assoc]

/-- The shares, each above 16 as 16 (R152). -/
theorem Profile.word_store_eight : (pf.store 8 v).word 8 =
    0#3 ++ storedShare ((v >>> 24).setWidth 5) ++ 0#3 ++ storedShare ((v >>> 16).setWidth 5) ++
      0#3 ++ storedShare ((v >>> 8).setWidth 5) ++ 0#3 ++ storedShare (v.setWidth 5) := by
  simp only [← field_eq_shift]
  rw [← field_zero]
  exact Profile.word_eight _

theorem Profile.word_store_eleven : (pf.store 11 v).word 11 =
    (v >>> 16).setWidth 16 ++ 0#1 ++ atLeastOne ((v >>> 12).setWidth 3) ++ 0#1 ++
      atLeastOne ((v >>> 8).setWidth 3) ++ 0#8 := by
  simp only [← field_eq_shift]
  exact Profile.word_eleven _

/-- The two verdict tables, a code 3 as that of TRIM (R153). -/
theorem Profile.word_store_twelve : (pf.store 12 v).word 12 = 0#16 ++
    (Verdict.ofCode ((v >>> 14).setWidth 2)).code ++ (Verdict.ofCode ((v >>> 12).setWidth 2)).code ++
    (Verdict.ofCode ((v >>> 10).setWidth 2)).code ++ (Verdict.ofCode ((v >>> 8).setWidth 2)).code ++
    (Verdict.ofCode ((v >>> 6).setWidth 2)).code ++ (Verdict.ofCode ((v >>> 4).setWidth 2)).code ++
    (Verdict.ofCode ((v >>> 2).setWidth 2)).code ++ (Verdict.ofCode (v.setWidth 2)).code := by
  simp only [← field_eq_shift]
  rw [← field_zero]
  exact Profile.word_twelve _

end

/-- Settles O55: the layouts word by word, the words that a write leaves, and the written word with its replacements. -/
theorem profileWordsReadBack : Obligations.ProfileWordsReadBack := by
  intro pf v one share verdict code
  refine ⟨⟨pf.word_zero, pf.word_one, pf.word_two, pf.word_three, pf.word_four, pf.word_five, pf.word_six, pf.word_seven,
      pf.word_eight, pf.word_nine, pf.word_ten, pf.word_eleven, pf.word_twelve, fun _ => pf.word_beyond⟩,
    fun _ _ => pf.word_store_other v, fun _ => pf.word_store_plain v, pf.word_store_two v, pf.word_store_three v,
    pf.word_store_four v, pf.word_store_five v, pf.word_store_six v, pf.word_store_seven v, pf.word_store_eight v,
    pf.word_store_eleven v, ?_⟩
  rw [pf.word_store_twelve v]
  simp only [Verdict.code_ofCode]
  rfl

/-! ## PROFILE_WRITE -/

/-- The clamp of one port leaves the others, and its pass is called for where F rose (R154). -/
theorem clampPort_step (number : Nat) (a : State × List Nat) (p : Nat) :
    (∀ q, q ≠ p → (clampPort number a p).1.port q = a.1.port q) ∧
    ∀ q, q ∈ (clampPort number a p).2 ↔
      q ∈ a.2 ∨ q = p ∧ (a.1.port p).flight < ((clampPort number a p).1.port p).flight := by
  unfold clampPort
  dsimp only
  split
  · refine ⟨fun q hq => (State.port_setPort ..).trans (if_neg hq), fun q => ?_⟩
    rw [State.port_setPort, if_pos rfl]
    split
    · rename_i hrose
      simp [hrose, or_comm]
    · rename_i hstood
      simp [hstood]
  · simp

/-- The clamp of the first `m` ports calls for the passes of those whose F rose (R154). -/
theorem State.clampPorts_fold_called (s : State) (number m q : Nat) :
    q ∈ ((List.range m).foldl (clampPort number) (s, [])).2 ↔
      (s.port q).flight < (((List.range m).foldl (clampPort number) (s, [])).1.port q).flight := by
  induction m with
  | zero => simp
  | succ m ih =>
    obtain ⟨u, called, hfold, -, -, hport⟩ := s.clampPorts_fold number m
    rw [hfold] at ih
    rw [List.range_succ, List.foldl_append, hfold, List.foldl_cons, List.foldl_nil]
    obtain ⟨hother, hcalled⟩ := clampPort_step number (u, called) m
    rw [hcalled, ih]
    by_cases hq : q = m
    · subst hq
      have hself : u.port q = s.port q := by rw [hport]; simp
      simp [hself]
    · simp [hq, hother q hq]

/-- A write of a profile word stores it and advances the word field; a write of word 4 clamps the ports besides (R154). -/
theorem exec_profileWrite {s : State} {n w : Nat} (h : s.select.target = .profile n w) (value : Word) :
    exec (.profileWrite value) s = .next
      (if w = 4 then (s.setProfile n ((s.profileAt n).store w value)).advance.clampPorts n
      else (s.setProfile n ((s.profileAt n).store w value)).advance) := by
  simp only [exec, execProfileWrite, h]
  rfl

/-- Settles O54: `State.clampPorts_fold` gives the ports of the clamp, and `State.clampPorts_fold_called` its passes. -/
theorem profileWriteStoresAndClamps : Obligations.ProfileWriteStoresAndClamps := by
  intro s n w value h pf
  have hread : ∀ j, (s.setProfile n pf).advance.profileAt j = if j = n then pf else s.profileAt j :=
    fun j => s.profileAt_setProfile n j pf
  have hrun := exec_profileWrite h value
  refine ⟨(s.setProfile n pf).advance, rfl, (hread n).trans (if_pos rfl), fun j hj => (hread j).trans (if_neg hj),
    fun hw => hrun.trans (congrArg _ (if_neg hw)), fun hw => ?_⟩
  obtain ⟨v, called, hfold, hframe, -, hport⟩ := (s.setProfile n pf).advance.clampPorts_fold n 48
  refine ⟨v, called, hframe, fun p => ?_, fun p => ?_, ?_⟩
  · rw [hport, hread, if_pos rfl, Port.bring_eq]
    rfl
  · have hcalled := (s.setProfile n pf).advance.clampPorts_fold_called n 48 p
    rwa [hfold] at hcalled
  · rw [hrun, if_pos hw, State.clampPorts, show Config.ports = 48 from rfl, hfold]

end Sys2Proof.Machine

/-! The Meter Bank: what an offer does to the meters that take it, the host's commands METERS_START and METERS_STOP, and the
SURGE sources of a port (R165 to R169). -/

namespace Sys2Proof.Machine

/-! ## An offer (R165, R169) -/

section
variable {m : Meter} {inc : Nat}

theorem Meter.accepts_iff {sel : BitVec 6} {ev : MeterEvent} :
    m.accepts sel ev = true ↔ m.counting = true ∧ m.event = ev ∧ m.port = sel := by
  simp [Meter.accepts, and_assoc]

theorem Meter.overflows_iff : m.overflows inc = true ↔ 2 ^ 40 - 1 < m.count.toNat + inc := by
  rw [Meter.overflows, decide_eq_true_iff]
  omega

/-- An increment within the count's range moves the count alone (R169). -/
theorem Meter.add_of_fits (h : m.count.toNat + inc ≤ 2 ^ 40 - 1) :
    ∃ c : BitVec 40, c.toNat = m.count.toNat + inc ∧ m.add inc = { m with count := c } := by
  have hfits : ¬ m.overflows inc = true := fun hover => Nat.not_lt.2 h (Meter.overflows_iff.1 hover)
  refine ⟨m.count + BitVec.ofNat 40 inc, ?_, if_neg hfits⟩
  rw [BitVec.toNat_add, BitVec.toNat_ofNat]
  omega

/-- An overflowing increment is smaller than the range, so it wraps the count once (R169). -/
theorem Meter.add_of_overflows (hon : m.counting = true) (hinc : inc ≤ 255) (h : 2 ^ 40 - 1 < m.count.toNat + inc) :
    ∃ c : BitVec 40, c.toNat = m.count.toNat + inc - 2 ^ 40 ∧ m.add inc = { m with
      count := if m.reloadControl = .overflow then m.reload else c
      overflowed := true
      counting := !(decide (m.disableSource = .overflow ∧ m.enableSource ≠ .always)) } := by
  refine ⟨m.count + BitVec.ofNat 40 inc, ?_, ?_⟩
  · have hcount := m.count.isLt
    rw [BitVec.toNat_add, BitVec.toNat_ofNat]
    omega
  · rw [Meter.add, if_pos (Meter.overflows_iff.2 h), hon, Bool.true_and, Bool.decide_and]

end

theorem State.offerTo_frame (s : State) (sel : BitVec 6) (ev : MeterEvent) (inc : Nat) : s.offerTo sel ev inc =
    { s with meters := (s.offerTo sel ev inc).meters, attn := (s.offerTo sel ev inc).attn } := by
  simp only [State.offerTo]

theorem State.offerTo_attn_eq (s : State) (sel : BitVec 6) (ev : MeterEvent) (inc : Nat) :
    (s.offerTo sel ev inc).attn =
      if offerRaises sel ev inc s.meters then s.attn ||| AttnSource.meterOverflow.bit else s.attn := by
  simp only [State.offerTo]

/-- An offer raises METER_OVERFLOW where a meter that takes it overflows with its attention enabled (R169). -/
theorem State.offerRaises_iff {s : State} {sel : BitVec 6} {ev : MeterEvent} {inc : Nat} :
    offerRaises sel ev inc s.meters = true ↔
      ∃ i, i < 16 ∧ ((s.meter i).counting = true ∧ (s.meter i).event = ev ∧ (s.meter i).port = sel) ∧
        2 ^ 40 - 1 < (s.meter i).count.toNat + inc ∧ (s.meter i).overflowAttention = true := by
  simp only [offerRaises, List.any_eq_true, List.mem_range, Bool.and_eq_true, Meter.accepts_iff, Meter.overflows_iff,
    and_assoc]
  rfl

/-- Settles O60: `State.meter_offerTo` gives each meter, `Meter.add` by whether the sum is within the count's range. -/
theorem meterTakesOffer : Obligations.MeterTakesOffer := by
  refine ⟨?_, fun _ _ _ _ => rfl⟩
  intro s sel ev inc hinc t takes
  refine ⟨s.offerTo_frame sel ev inc, fun i => ?_,
    (s.offerTo_attn_eq sel ev inc).trans (if_congr State.offerRaises_iff rfl rfl)⟩
  have hmeter : t.meter i = if i < 16 ∧ takes (s.meter i) then (s.meter i).add inc else s.meter i := by
    simp only [t, takes, State.meter_offerTo, Meter.accepts_iff]
  refine ⟨fun htakes hfits => ?_, fun htakes hover => ?_, fun hnot => hmeter.trans (if_neg hnot)⟩
  · rw [hmeter, if_pos htakes]
    exact Meter.add_of_fits hfits
  · rw [hmeter, if_pos htakes]
    obtain ⟨-, hon, -⟩ := htakes
    exact Meter.add_of_overflows hon hinc hover

/-! ## The sources that turn a meter on and off (R166 to R168) -/

section
variable (m : Meter)

theorem Meter.turnOn_eq (on : Bool) :
    { m with counting := m.counting || on } = if on then { m with counting := true } else m := by
  cases on <;> simp

theorem Meter.turnOff_eq (off : Bool) :
    { m with counting := m.counting && !off } = if off then { m with counting := false } else m := by
  cases off <;> simp

/-- METERS_STOP turns a meter of disable source STOP off (R166, R167). -/
theorem Meter.stopped_eq :
    m.stopped = if m.disableSource = .stop ∧ m.enableSource ≠ .always then { m with counting := false } else m := by
  rw [Meter.stopped, Meter.turnOff_eq]
  simp only [Bool.and_eq_true, decide_eq_true_iff]

variable {p : Nat}

/-- A port's number is below 64, so a port field names it by its number (R175). -/
theorem Meter.port_eq_iff (hp : p < 48) : m.port = BitVec.ofNat 6 p ↔ m.port.toNat = p := by
  rw [← BitVec.toNat_inj, BitVec.toNat_ofNat, Nat.mod_eq_of_lt (by omega)]

theorem Meter.surgeEntered_eq (hp : p < 48) :
    m.surgeEntered p =
      if m.port.toNat = p ∧ m.enableSource = .surgeEntry then { m with counting := true } else m := by
  rw [Meter.surgeEntered, Meter.turnOn_eq]
  simp only [Bool.and_eq_true, decide_eq_true_iff, m.port_eq_iff hp]

theorem Meter.surgeExited_eq (hp : p < 48) :
    m.surgeExited p =
      if m.port.toNat = p ∧ m.disableSource = .surgeExit ∧ m.enableSource ≠ .always then { m with counting := false }
      else m := by
  rw [Meter.surgeExited, Meter.turnOff_eq]
  simp only [Bool.and_eq_true, decide_eq_true_iff, m.port_eq_iff hp, and_assoc]

end

section
variable (s : State)

theorem State.mapMeters_frame (f : Meter → Meter) :
    s.mapMeters f = { s with meters := (s.mapMeters f).meters } := rfl

/-- The SURGE entry source at each meter (R168). -/
theorem State.meter_surgeEntered {p : Nat} (hp : p < 48) (i : Nat) :
    (s.mapMeters (Meter.surgeEntered p)).meter i =
      if i < 16 ∧ (s.meter i).port.toNat = p ∧ (s.meter i).enableSource = .surgeEntry then
        { s.meter i with counting := true }
      else s.meter i := by
  rw [ite_and, ← Meter.surgeEntered_eq _ hp]
  exact s.meter_mapMeters _ i

/-- The SURGE exit source at each meter (R166, R168). -/
theorem State.meter_surgeExited {p : Nat} (hp : p < 48) (i : Nat) :
    (s.mapMeters (Meter.surgeExited p)).meter i =
      if i < 16 ∧ (s.meter i).port.toNat = p ∧ (s.meter i).disableSource = .surgeExit ∧
          (s.meter i).enableSource ≠ .always then
        { s.meter i with counting := false }
      else s.meter i := by
  rw [ite_and, ← Meter.surgeExited_eq _ hp]
  exact s.meter_mapMeters _ i

/-- A meter command changes the meters, and completes OK (R167, R173). -/
theorem State.finishCommand_mapMeters (f : Meter → Meter) (code port : BitVec 8) (tag : Tag) :
    (s.mapMeters f).finishCommand code port tag .ok = { s with
      meters := ((s.mapMeters f).finishCommand code port tag .ok).meters
      command := code ++ port ++ tag
      result := ⟨s.result.sequence + 1#8, code, .ok⟩ } := by
  rw [State.finishCommand_meters, State.finishCommand_eq]
  rfl

/-- A meter command reaches all sixteen meters (R167). -/
theorem State.meter_finishCommand_mapMeters (f : Meter → Meter) (code port : BitVec 8) (tag : Tag) (i : Nat) :
    ((s.mapMeters f).finishCommand code port tag .ok).meter i = if i < 16 then f (s.meter i) else s.meter i := by
  rw [State.meter, State.finishCommand_meters]
  exact s.meter_mapMeters f i

theorem exec_metersStart (port : BitVec 8) (tag : Tag) :
    exec (.metersStart port tag) s = .next ((s.mapMeters Meter.started).finishCommand 5#8 port tag .ok) := rfl

theorem exec_metersStop (port : BitVec 8) (tag : Tag) :
    exec (.metersStop port tag) s = .next ((s.mapMeters Meter.stopped).finishCommand 6#8 port tag .ok) := rfl

end

/-- Settles O52: `State.mapMeters` reaches the sixteen meters, and a meter of ALL names no port. -/
theorem meterCommandsReachAllMeters : Obligations.MeterCommandsReachAllMeters := by
  refine ⟨fun s port tag => ⟨?_, ?_⟩, ?_⟩
  · exact ⟨_, exec_metersStart s port tag, s.finishCommand_mapMeters .., fun i => s.meter_finishCommand_mapMeters ..⟩
  · refine ⟨_, exec_metersStop s port tag, s.finishCommand_mapMeters .., fun i => ?_⟩
    rw [ite_and, ← Meter.stopped_eq]
    exact s.meter_finishCommand_mapMeters ..
  · intro s p hp t u
    refine ⟨s.mapMeters_frame _, s.mapMeters_frame _, fun i =>
      ⟨s.meter_surgeEntered hp i, s.meter_surgeExited hp i, fun hall => ?_⟩⟩
    have hother : (s.meter i).port.toNat ≠ p := by
      rw [hall]
      exact Nat.ne_of_gt (Nat.lt_trans hp (by decide))
    exact ⟨(s.meter_surgeEntered hp i).trans (if_neg fun h => hother h.2.1),
      (s.meter_surgeExited hp i).trans (if_neg fun h => hother h.2.1)⟩

end Sys2Proof.Machine

/-! The writes of the Management Port: the command that a write of COMMAND or TABLE_WINDOW is, and the registers that hold
what is written to them (R172 to R178). -/

namespace Sys2Proof.Machine

/-! ## COMMAND (R173) -/

theorem field_code (code port : BitVec 8) (tag : Tag) : field (code ++ port ++ tag) 24 8 = code := by
  ext i hi
  grind [field]

theorem field_port (code port : BitVec 8) (tag : Tag) : field (code ++ port ++ tag) 16 8 = port := by
  ext i hi
  grind [field]

theorem field_tag (code port : BitVec 8) (tag : Tag) : field (code ++ port ++ tag) 0 16 = tag := by
  ext i hi
  grind [field]

theorem hostWrite_command (s : State) (v : Word) : hostWrite 1#4 0xF#4 v s = commandOf v := rfl

theorem isBadCode_iff {code : BitVec 8} : isBadCode code = true ↔ code = 0#8 ∨ 6#8 < code := by simp [isBadCode]

theorem exec_badCommand {code : BitVec 8} (h : code = 0#8 ∨ 6#8 < code) (port : BitVec 8) (tag : Tag) (s : State) :
    exec (.badCommand code port tag) s = .next (s.finishCommand code port tag .badCommand) :=
  congrArg Host.Outcome.next (if_pos (isBadCode_iff.2 h))

/-- Settles O53: the code, the port and the tag are the fields of the word, and BAD_COMMAND only completes. -/
theorem commandWordNamesTheCommand : Obligations.CommandWordNamesTheCommand := by
  constructor
  · intro s code port tag
    have hcode := field_code code port tag
    have hport := field_port code port tag
    have htag := field_tag code port tag
    generalize code ++ port ++ tag = v at hcode hport htag ⊢
    subst hcode hport htag
    exact hostWrite_command s v
  · intro s code port tag hbad
    rw [exec_badCommand hbad, State.finishCommand_eq]

/-! ## The command that an access of the window is (R172, R174, R175, log 15) -/

section
variable (s : State) (v : Word)

theorem hostWrite_part (i : BitVec 4) {lanes : BitVec 4} (h : lanes ≠ 0xF#4) :
    hostWrite i lanes v s = .registerWrite i lanes v := if_neg h

theorem hostWrite_window : hostWrite 4#4 0xF#4 v s = windowWrite s.select.target v := rfl

/-- The whole-word writes of IDENT, COMMAND_RESULT, TABLE_SELECT and the words 8 to 15 have no row of their own. -/
theorem hostWrite_register {i : BitVec 4} (h : i = 0#4 ∨ i = 2#4 ∨ i = 3#4 ∨ 8#4 ≤ i) :
    hostWrite i 0xF#4 v s = .registerWrite i 0xF#4 v := by
  rcases h with rfl | rfl | rfl | h
  · rfl
  · rfl
  · rfl
  · have hi : 8 ≤ i.toNat := h
    rw [hostWrite, if_pos rfl]
    split
    case h_6 => rfl
    all_goals omega

end

/-- The writable words of a port are its profile number and its admin floor. -/
theorem windowWrite_port (p w : Nat) (v : Word) : windowWrite (.port p w) v =
    if w = 0 then .profileNumberWrite v else if w = 1 then .adminFloorWrite v else .registerWrite 4#4 0xF#4 v :=
  match w with
  | 0 | 1 | _ + 2 => rfl

/-- The writable words of a meter are its configuration, the two parts of its count and, by a one, its overflow flag. -/
theorem windowWrite_meter (i w : Nat) (v : Word) : windowWrite (.meter i w) v =
    if w = 0 then .meterConfigWrite v else if w = 1 ∨ w = 2 then .meterCountWrite v
    else if w = 5 ∧ v.getLsbD 0 = true then .meterFlagClear v else .registerWrite 4#4 0xF#4 v :=
  match w with
  | 0 | 1 | 2 | 3 | 4 | _ + 6 => rfl
  | 5 => by simp [windowWrite, bit]

/-- A write of the selected word that is a REGISTER_WRITE finds a word without a row of its own. -/
theorem Target.written_of_windowWrite {t : Target} {v : Word} (h : windowWrite t v = .registerWrite 4#4 0xF#4 v) :
    t.written v = false := by
  cases t with
  | profile => nomatch h
  | port p w =>
    match w with
    | 0 | 1 => nomatch h
    | _ + 2 => simp [written]
  | gather | roster | absent => rfl
  | exempt => nomatch h
  | meter i w =>
    rw [windowWrite_meter] at h
    grind [written, bit]

theorem hostRead_status {s : State} {p : Nat} (h : s.select.target = .port p 2) : hostRead s = .portStatusRead := by
  rw [hostRead, h]
  rfl

theorem hostRead_window {s : State} (h : ∀ p, s.select.target ≠ .port p 2) : hostRead s = .tableWindowRead := by
  unfold hostRead
  split
  next p hp => exact absurd hp (h p)
  next => rfl

/-! ## REGISTER_WRITE (R172, R174) -/

section
variable (s : State) (v : Word)

theorem exec_registerWrite_part (i : BitVec 4) {lanes : BitVec 4} (h : lanes ≠ 0xF#4) :
    exec (.registerWrite i lanes v) s = .next s := congrArg Host.Outcome.next (if_neg h)

theorem exec_registerWrite_select :
    exec (.registerWrite 3#4 0xF#4 v) s = .next { s with select := TableSelect.ofWord v } := rfl

theorem exec_registerWrite_window {s : State} {v : Word} (h : s.select.target.written v = false) :
    exec (.registerWrite 4#4 0xF#4 v) s = .next s.advance := by
  show execRegisterWrite .. = _
  simp [execRegisterWrite, h]

theorem exec_registerWrite_other {i : BitVec 4} (hselect : i ≠ 3#4) (hwindow : i ≠ 4#4) :
    exec (.registerWrite i 0xF#4 v) s = .next s := by
  show execRegisterWrite .. = _
  simp [execRegisterWrite, hselect, hwindow]

end

theorem TableSelect.ofWord_eq (v : Word) :
    TableSelect.ofWord v = ⟨(v >>> 29).setWidth 3, (v >>> 8).setWidth 21, v.setWidth 8⟩ := by
  rw [TableSelect.ofWord, field_eq_shift, field_eq_shift, field_zero]

/-! ## Attention and the pool's low mark (R176 to R178) -/

/-- A one clears its source's bit, and a zero leaves it (R176). -/
theorem getLsbD_clearAttn (attn : BitVec 7) (v : Word) {i : Nat} (hi : i < 7) :
    (attn &&& ~~~field v 0 7).getLsbD i = (attn.getLsbD i && !v.getLsbD i) := by
  simp [field, hi]

theorem exec_attnEnableWrite (s : State) (v : Word) :
    exec (.attnEnableWrite v) s = .next { s with attnEnable := v.setWidth 7 } := by
  rw [← field_zero]
  rfl

/-- The mark is a field of 17 bits, stored as at most the pool's size (R178). -/
theorem exec_poolLowMarkWrite (s : State) (v : Word) :
    exec (.poolLowMarkWrite v) s = .next { s with poolLowMark := min (v.toNat % 2 ^ 17) 65536 } := by
  rw [← BitVec.toNat_setWidth, ← field_zero]
  rfl

/-- ATTN_N is driven by a source that has both its bits set (R177). -/
theorem State.attnDriven_iff (s : State) :
    s.attnDriven = true ↔ ∃ i, i < 7 ∧ s.attn.getLsbD i = true ∧ s.attnEnable.getLsbD i = true := by
  rw [State.attnDriven, decide_eq_true_iff]
  constructor
  · intro hne
    by_contra hnone
    refine hne (BitVec.eq_of_getLsbD_eq fun i hi => ?_)
    rw [BitVec.getLsbD_and, BitVec.getLsbD_zero]
    exact Bool.and_eq_false_iff.2 (by grind)
  · rintro ⟨i, -, hattn, henable⟩ hzero
    have hbit := congrArg (·.getLsbD i) hzero
    simp [hattn, henable] at hbit

/-- Settles O59: each access is the row that `hostWrite` and `hostRead` name, and each write stores what its register holds. -/
theorem registerWrites : Obligations.RegisterWrites := by
  refine ⟨fun s v => ⟨_, rfl, rfl, fun i hi => getLsbD_clearAttn s.attn v hi⟩, exec_attnEnableWrite,
    exec_poolLowMarkWrite, fun s v => ?_, fun s i lanes v h => exec_registerWrite_part s v i h, fun s v h => ?_,
    fun s i v h => ?_, State.attnDriven_iff, fun s i lanes v h => hostWrite_part s v i h, fun s v => ⟨rfl, rfl, rfl⟩,
    fun s i v h => hostWrite_register s v h, fun s v => ?_,
    fun s => ⟨fun ⟨p, h⟩ => hostRead_status h, hostRead_window⟩⟩
  · rw [exec_registerWrite_select, TableSelect.ofWord_eq]
  · exact exec_registerWrite_window (Target.written_of_windowWrite ((hostWrite_window s v).symm.trans h))
  · obtain ⟨hselect, hwindow⟩ : i ≠ 3#4 ∧ i ≠ 4#4 := by bv_omega
    exact exec_registerWrite_other s v hselect hwindow
  · intro row ignored
    have hrow : ∀ t, s.select.target = t → row = windowWrite t v := fun t h => by rw [← h]; rfl
    exact ⟨fun n w h => hrow _ h, fun p w h => (hrow _ h).trans (windowWrite_port p w v), fun k w h => hrow _ h,
      fun k i w h => hrow _ h, fun i w h => hrow _ h, fun i w h => (hrow _ h).trans (windowWrite_meter i w v), hrow _⟩

end Sys2Proof.Machine

/-! One step of the part (log 6). -/

namespace Sys2Proof.Machine

theorem step_of_pending_nil {s : State} (h : s.pending = []) : step s = .next s := by
  rw [step, h]

theorem step_of_pending_cons {s : State} {c : Instr} {rest : List Instr} (h : s.pending = c :: rest) :
    step s = exec c { s with pending := rest } := by
  rw [step, h]

/-- Settles O1: putting a command at the front and taking it again gives back the state it was put before. -/
theorem stepRunsFrontCommand : Obligations.StepRunsFrontCommand :=
  ⟨fun _ _ _ => step_of_pending_cons, fun _ _ => step_of_pending_cons rfl, fun _ => step_of_pending_nil⟩

end Sys2Proof.Machine
